-- ==== Sys2Proof/Word.lean ====
section
/-! DEFINITION. The words ACL2-CORE computes with (spec/00_scope.md R12, R15, R16; spec/30_encoding.md R61) and
the two sets of names its operands range over: the four axes and the four configuration registers. -/

namespace Sys2Proof

/-- A `u8`: a byte of the sensor's bus, a register address, the RANGE register (R13, R18, R20). -/
abbrev Byte := BitVec 8

/-- A RawWord, `u16` (spec/40_codec.md R80). -/
abbrev RawWord := BitVec 16

/-- The 11-bit magnitude of a sign-magnitude pair (R81). -/
abbrev Magnitude := BitVec 11

/-- A Sample, a zero offset, a DATA operand or a response beat: 32 bits, read as two's complement (R12, R15). -/
abbrev Sample := BitVec 32

/-- A queue index register, 9 bits (spec/10_state.md R20, R24). -/
abbrev Index := BitVec 9

/-- A command word, `cmd[39:0]` (R61). -/
abbrev CmdWord := BitVec 40

/-- The four axes (R16): X, Y, Z and Temperature. -/
inductive Axis
  | x | y | z | t
deriving DecidableEq, Repr

/-- The four configuration registers, by the names of the assembler (R41, R69): ZERO[X], ZERO[Y], ZERO[Z], RANGE. -/
inductive CfgReg
  | zx | zy | zz | range
deriving DecidableEq, Repr

/-- `wrap32` of R18: the `i32` congruent to an integer modulo 2^32. -/
abbrev wrap32 (n : Int) : Sample := BitVec.ofInt 32 n

end Sys2Proof
end

