-- ==== Sys2Proof/Config.lean ====
section
/-! DEFINITION. The parameters of ACL2-CORE: those the source fixes (spec/00_scope.md R10), those the spec decided
(R11), and the open ones (R13), which are constants without a value. -/

namespace Sys2Proof.Config

/-- `C`, the capacity of each queue's backing array in slots (R10). -/
def capacity : Nat := 512

/-- `SATB`, the saturation bound of TAIL (R10). -/
def saturationBound : Index := 511

/-- `FILL`, what `reset` of a queue writes to every slot: -999999 (R10, spec/41_queue.md R106). -/
def fill : Sample := 0xFFF0BDC1

/-- `EMPTY_DEFAULT`, what an empty pop returns (R10). -/
def emptyDefault : Sample := 0

/-- `SBIT_REG`, the sign bit position of a register word (R10). -/
def sbitReg : Nat := 15

/-- `SBIT_FIFO`, the sign bit position of a tag-masked FIFO word (R10). -/
def sbitFifo : Nat := 13

/-- `W_MAG` as a mask: the low 11 bits of a RawWord (R10). -/
def magMask : RawWord := 0x7FF

/-- `FIFO_MASK`, which removes the tag bits (R10). -/
def fifoMask : RawWord := 0x3FFF

/-- `K_MILLI`, the multiplier of the scaling law (R10). -/
def kMilli : Int := 1000

/-- `K_SPAN`, the dividend of the scaling law's divisor (R10). -/
def kSpan : Int := 2000

/-- The two legal values of `NEG_ADJ` (R11; spec/90_conflicts.md C1). -/
inductive NegAdj
  | plusOne | minusOne
deriving DecidableEq, Repr

/-- `NEG_ADJ` of this hardware: +1. DEDUCED by the spec between two readings of its source (log 1), unsafe. -/
def negAdj : NegAdj := .plusOne

/-- `TX_FILL`, sent in each data exchange of a burst (R11, decision D15; log 15). -/
def txFill : Byte := 0x00

/-- `RANGE_RESET` (R11, decision D18; log 10), unsafe. -/
def rangeReset : Byte := 2

/-- `ZERO_RESET` (R11, decision D12; log 10), unsafe. -/
def zeroReset : Sample := 0

/-- The "FIFO read" command byte, an open parameter (R13; log 11), safe. -/
opaque cmdFifoRead : Byte

/-- The "read" command byte used inside RegisterLink, outside the block (R13; log 11), safe. -/
opaque cmdRead : Byte

/-- The "write" command byte used inside RegisterLink, outside the block (R13; log 11), safe. -/
opaque cmdWrite : Byte

/-- The address of FIFO_ENTRIES_H, an open parameter (R13; log 11), safe. -/
opaque addrFifoEntriesH : Byte

/-- The address of FIFO_ENTRIES_L, an open parameter (R13; log 11), safe. -/
opaque addrFifoEntriesL : Byte

/-- The address of the high data register of an axis, open parameters (R13; log 11), safe. -/
opaque addrDataH : Axis → Byte

/-- The address of the low data register of an axis, open parameters (R13; log 11), safe. -/
opaque addrDataL : Axis → Byte

/-- The address of the filter-control register, used by the host only (R13; log 11), safe. -/
opaque addrFilterCtl : Byte

end Sys2Proof.Config
end

