-- ==== Sys2Proof/Syntax.lean ====
section
/-! DEFINITION. The commands of ACL2-CORE, one constructor per row of spec/opcode_table.json (spec/30_encoding.md R64).
WRCFG has two rows and two constructors, since two rules give its meaning (spec/43_session.md R137, R138). -/

namespace Sys2Proof

/-- A command with its operands, in the order of the table. -/
inductive Instr
  /-- DEC15 w (R86). -/
  | dec15 (w : RawWord)
  /-- DEC13 w (R87). -/
  | dec13 (w : RawWord)
  /-- SGN15 w (R88). -/
  | sgn15 (w : RawWord)
  /-- SGN13 w (R89). -/
  | sgn13 (w : RawWord)
  /-- TAG w (R90). -/
  | tag (w : RawWord)
  /-- SCALE a, s, m (R91): `neg` is the sign bit s, `m` the magnitude. -/
  | scale (a : Axis) (neg : Bool) (m : Magnitude)
  /-- PUSH a, v (R102). -/
  | push (a : Axis) (v : Sample)
  /-- POP a (R104). -/
  | pop (a : Axis)
  /-- SIZE a (R105). -/
  | size (a : Axis)
  /-- QDRAIN a (R107). -/
  | qdrain (a : Axis)
  /-- QRESET a (R106). -/
  | qreset (a : Axis)
  /-- FRONT a (R108). -/
  | front (a : Axis)
  /-- BACK a (R108). -/
  | back (a : Axis)
  /-- FDRAIN (R124). -/
  | fdrain
  /-- RDAXIS a (R136). -/
  | rdaxis (a : Axis)
  /-- WRCFG r, v with r one of ZX, ZY, ZZ (R137). -/
  | wrcfgZero (r : CfgReg) (v : Sample)
  /-- WRCFG RANGE, v (R138). -/
  | wrcfgRange (v : Sample)
  /-- RDCFG r (R139). -/
  | rdcfg (r : CfgReg)
deriving DecidableEq, Repr

end Sys2Proof
end

