-- ==== Sys2Proof/WellFormed.lean ====
section
/-! DEFINITION. Which instruction terms are commands of the block: the two conditions on operands that a
constructor's types do not express (spec/30_encoding.md R62, R66 item 4; the constraints of spec/opcode_table.json). -/

namespace Sys2Proof

/-- SCALE takes an axis that has a zero offset, so not T (R66 item 4), and the ZERO variant of WRCFG takes a
zero-offset register, so not RANGE (R137). Every other term is well-formed. -/
def Instr.wellFormed : Instr → Bool
  | .dec15 _ => true
  | .dec13 _ => true
  | .sgn15 _ => true
  | .sgn13 _ => true
  | .tag _ => true
  | .scale a _ _ => decide (a ≠ .t)
  | .push _ _ => true
  | .pop _ => true
  | .size _ => true
  | .qdrain _ => true
  | .qreset _ => true
  | .front _ => true
  | .back _ => true
  | .fdrain => true
  | .rdaxis _ => true
  | .wrcfgZero r _ => decide (r ≠ .range)
  | .wrcfgRange _ => true
  | .rdcfg _ => true

end Sys2Proof
end

