-- ==== Sys2Proof/Decode.lean ====
section
/-! DEFINITION. The strict, total decoder of command words (spec/30_encoding.md R61 to R66) and the encoder, both
written from the tables of R62 and R64. Decoding never depends on the block's state (R65). -/

namespace Sys2Proof

/-- The axis code, R16. -/
def Axis.code : Axis → BitVec 2
  | .x => 0
  | .y => 1
  | .z => 2
  | .t => 3

/-- The axis of a code, R16 and R83; every 2-bit code names an axis. -/
def Axis.ofCode (c : BitVec 2) : Axis :=
  if c = 0 then .x else if c = 1 then .y else if c = 2 then .z else .t

/-- The configuration register number, R41. -/
def CfgReg.code : CfgReg → BitVec 2
  | .zx => 0
  | .zy => 1
  | .zz => 2
  | .range => 3

/-- The configuration register of a number, R41. -/
def CfgReg.ofCode (c : BitVec 2) : CfgReg :=
  if c = 0 then .zx else if c = 1 then .zy else if c = 2 then .zz else .range

/-- Why a command word is refused (R66 items 1 to 4). Item 5, FRONT and BACK, is not the decoder's: those words
decode to commands whose meaning is to be refused (R108). -/
inductive DecodeError
  /-- Item 1: a reserved operation code. -/
  | reservedOp
  /-- Item 2: a format N or W command with AX not 0. -/
  | axisNotZero
  /-- Item 3: a 1 in a "must be 0" bit of DATA. -/
  | reservedBits
  /-- Item 4: SCALE with AX = 3. -/
  | noOffsetForT
deriving DecidableEq, Repr

/-- The field OP, bits 39:34 (R61). -/
def opField (c : CmdWord) : BitVec 6 := c.extractLsb' 34 6

/-- The field AX, bits 33:32 (R61). -/
def axField (c : CmdWord) : BitVec 2 := c.extractLsb' 32 2

/-- The field DATA, bits 31:0 (R61). -/
def dataField (c : CmdWord) : Sample := c.extractLsb' 0 32

/-- Format N (R62): no operand. -/
def decodeN (c : CmdWord) (i : Instr) : Except DecodeError Instr :=
  if axField c ≠ 0 then .error .axisNotZero
  else if dataField c ≠ 0 then .error .reservedBits
  else .ok i

/-- Format W (R62): `w = DATA[15:0]`, AX and DATA[31:16] zero. -/
def decodeW (c : CmdWord) (mk : RawWord → Instr) : Except DecodeError Instr :=
  if axField c ≠ 0 then .error .axisNotZero
  else if c.extractLsb' 16 16 ≠ 0 then .error .reservedBits
  else .ok (mk (c.extractLsb' 0 16))

/-- Format M (R62): `s = DATA[11]`, `m = DATA[10:0]`, DATA[31:12] zero, AX not 3. -/
def decodeM (c : CmdWord) (mk : Axis → Bool → Magnitude → Instr) : Except DecodeError Instr :=
  if axField c = 3 then .error .noOffsetForT
  else if c.extractLsb' 12 20 ≠ 0 then .error .reservedBits
  else .ok (mk (Axis.ofCode (axField c)) (c.getLsbD 11) (c.extractLsb' 0 11))

/-- Format Q (R62): AX is the operand, DATA zero. -/
def decodeQ (c : CmdWord) (mk : BitVec 2 → Instr) : Except DecodeError Instr :=
  if dataField c ≠ 0 then .error .reservedBits else .ok (mk (axField c))

/-- Format V (R62): AX and `v = DATA[31:0]` are the operands. -/
def decodeV (c : CmdWord) (mk : BitVec 2 → Sample → Instr) : Except DecodeError Instr :=
  .ok (mk (axField c) (dataField c))

/-- The decoder (R64, R65): the format's checks of the word's OP, else refused by name. -/
def decode (c : CmdWord) : Except DecodeError Instr :=
  let op := opField c
  if op = 0x01 then decodeW c .dec15
  else if op = 0x02 then decodeW c .dec13
  else if op = 0x03 then decodeW c .sgn15
  else if op = 0x04 then decodeW c .sgn13
  else if op = 0x05 then decodeW c .tag
  else if op = 0x06 then decodeM c .scale
  else if op = 0x08 then decodeV c (fun ax v => .push (Axis.ofCode ax) v)
  else if op = 0x09 then decodeQ c (fun ax => .pop (Axis.ofCode ax))
  else if op = 0x0A then decodeQ c (fun ax => .size (Axis.ofCode ax))
  else if op = 0x0B then decodeQ c (fun ax => .qdrain (Axis.ofCode ax))
  else if op = 0x0C then decodeQ c (fun ax => .qreset (Axis.ofCode ax))
  else if op = 0x0D then decodeQ c (fun ax => .front (Axis.ofCode ax))
  else if op = 0x0E then decodeQ c (fun ax => .back (Axis.ofCode ax))
  else if op = 0x10 then decodeN c .fdrain
  else if op = 0x11 then decodeQ c (fun ax => .rdaxis (Axis.ofCode ax))
  else if op = 0x18 then
    decodeV c (fun r v => if r = 3 then .wrcfgRange v else .wrcfgZero (CfgReg.ofCode r) v)
  else if op = 0x19 then decodeQ c (fun r => .rdcfg (CfgReg.ofCode r))
  else .error .reservedOp

/-- A command word from its three fields (R61). -/
def cmdWord (op : BitVec 6) (ax : BitVec 2) (data : Sample) : CmdWord := op ++ ax ++ data

/-- The encoder: the command word of an instruction (R62, R64). -/
def encode : Instr → CmdWord
  | .dec15 w => cmdWord 0x01 0 (w.setWidth 32)
  | .dec13 w => cmdWord 0x02 0 (w.setWidth 32)
  | .sgn15 w => cmdWord 0x03 0 (w.setWidth 32)
  | .sgn13 w => cmdWord 0x04 0 (w.setWidth 32)
  | .tag w => cmdWord 0x05 0 (w.setWidth 32)
  | .scale a neg m => cmdWord 0x06 a.code ((BitVec.ofBool neg ++ m).setWidth 32)
  | .push a v => cmdWord 0x08 a.code v
  | .pop a => cmdWord 0x09 a.code 0
  | .size a => cmdWord 0x0A a.code 0
  | .qdrain a => cmdWord 0x0B a.code 0
  | .qreset a => cmdWord 0x0C a.code 0
  | .front a => cmdWord 0x0D a.code 0
  | .back a => cmdWord 0x0E a.code 0
  | .fdrain => cmdWord 0x10 0 0
  | .rdaxis a => cmdWord 0x11 a.code 0
  | .wrcfgZero r v => cmdWord 0x18 r.code v
  | .wrcfgRange v => cmdWord 0x18 3 v
  | .rdcfg r => cmdWord 0x19 r.code 0

/-- The command word whose low `nbits` bits are those of `w`, the bits above them zero. A command is one 40-bit
word presented in parallel (R60, R61), so it has no byte order. -/
def tableWord (nbits w : Nat) : CmdWord := BitVec.ofNat 40 (w % 2 ^ nbits)

/-- What the decoder reads from an instruction given by its bits as spec/opcode_table.json numbers them. -/
def decodeTableWord (nbits w : Nat) : Option Instr := (decode (tableWord nbits w)).toOption

end Sys2Proof
end

