-- ==== Sys2Proof/Machine/State.lean ====
section
/-! DEFINITION. The state of ACL2-CORE (spec/10_state.md R20), with the host's and the bus peer's sides of its ports
as plain data, the ways a step can stop, and the state after reset (R33 to R36; spec/70_reset_and_hazards.md R180). -/

namespace Sys2Proof.Machine

/-- One backing array `QMEM[a]` (R20; spec/20_memory.md R40): (slot index, slot) pairs, indices strictly rising and
below 512. A slot that is not listed has no value (R34; log 9), safe. -/
abbrev Memory := List (Nat × Sample)

/-- One queue (spec/41_queue.md R100): `QMEM[a]`, `HEAD[a]`, `TAIL[a]`. -/
structure Queue where
  mem : Memory
  head : Index
  tail : Index
deriving DecidableEq, Repr

/-- The status codes of a response (spec/30_encoding.md R67). -/
inductive Status
  | ok | sat | empty | refused
deriving DecidableEq, Repr

/-- A response (R67): a status and a list of data beats. -/
structure Response where
  status : Status
  beats : List Sample
deriving DecidableEq, Repr

/-- What the bus peer sees of the block (spec/20_memory.md R55; spec/42_drainer.md R128): the primitives of
spec/00_scope.md R18 with the byte the block sends. -/
inductive BusEvent
  | regRead (addr : Byte)
  | csAssert
  | exchange (tx : Byte)
  | csDeassert
deriving DecidableEq, Repr

/-- Where the command in progress waits for the bus peer: the waiting phases of spec/42_drainer.md R126, and the two
reads of RDAXIS (spec/43_session.md R136). Word lists are newest first. -/
inductive Phase
  /-- P0: no command in progress. -/
  | idle
  /-- P1: FDRAIN waits for the high byte of the count. -/
  | countHi
  /-- P2: FDRAIN waits for the low byte of the count. -/
  | countLo (hi : Byte)
  /-- P4: the command byte is sent; `left` words are to be read. -/
  | burstCmd (left : Nat)
  /-- P5: waiting for the least significant byte of a word; `left` counts the words not yet complete. -/
  | burstLsb (left : Nat) (words : List RawWord)
  /-- P6: waiting for the most significant byte of that word. -/
  | burstMsb (left : Nat) (words : List RawWord) (lsb : Byte)
  /-- RDAXIS waits for the high byte of its word. -/
  | axisHi (a : Axis)
  /-- RDAXIS waits for the low byte of its word. -/
  | axisLo (a : Axis) (hi : Byte)
deriving DecidableEq, Repr

/-- The ways the model stops although the spec gives no stop. -/
inductive Fault
  /-- Raised by POP and QDRAIN when they pop a slot that nothing has written since reset. The spec asks for it (R34;
  spec/93_implementation_defined.md U11) and no run from reset reaches it (R31). Safe (log 9). -/
  | unwrittenSlot (a : Axis)
deriving DecidableEq, Repr

/-- The ways the model declines to give a meaning. -/
inductive Refusal
  /-- An instruction whose meaning is not written yet; no arm of `exec` answers it. Safe. -/
  | notModelled (mnemonic : String)
  /-- Raised by SCALE, RDAXIS and FDRAIN when they scale a sample while RANGE is 0, a division by zero the spec leaves
  undefined (spec/40_codec.md R84; U1). No run from reset reaches it (R26). Safe (log 14). -/
  | rangeZero
deriving DecidableEq, Repr

/-- The machine. The fields down to `phase` are the block (R20); the others are the host's and the bus peer's sides
of the block's ports (log 3, 6, 7, 8), which no command can read but through those ports. -/
structure State where
  /-- `QMEM[X]`, `HEAD[X]`, `TAIL[X]`. -/
  queueX : Queue
  /-- `QMEM[Y]`, `HEAD[Y]`, `TAIL[Y]`. -/
  queueY : Queue
  /-- `QMEM[Z]`, `HEAD[Z]`, `TAIL[Z]`. -/
  queueZ : Queue
  /-- `QMEM[T]`, `HEAD[T]`, `TAIL[T]`. -/
  queueT : Queue
  /-- `ZERO[X]` (R27). -/
  zeroX : Sample
  /-- `ZERO[Y]` (R27). -/
  zeroY : Sample
  /-- `ZERO[Z]` (R27). -/
  zeroZ : Sample
  /-- `RANGE` (R26). -/
  range : Byte
  /-- `CS` asserted, that is driven low (R125; log 22). -/
  csAsserted : Bool
  /-- `BUSY` (R60). -/
  busy : Bool
  /-- The command in progress, if one waits for the bus peer (R126; log 21). -/
  phase : Phase
  /-- The reset input is pulsed (R37; log 8). -/
  resetIn : Bool
  /-- The words the host presents, the one on the command port first (R60; log 6). -/
  commands : List CmdWord
  /-- The responses given so far, newest first (R67; log 7). -/
  responses : List Response
  /-- The bytes the bus peer will return, next first (R47; log 3). -/
  answers : List Byte
  /-- The bus operations the peer has seen, newest first (R55; log 7). -/
  trace : List BusEvent
deriving DecidableEq, Repr

/-- A queue after reset: empty (R33), its slots without a value (R34; log 9). -/
def Queue.initial : Queue := { mem := [], head := 0, tail := 0 }

/-- The machine after reset (R33 to R36, R180). RANGE and ZERO take the values the spec decided (R35; log 10), unsafe.
No command is presented, no answer is prepared and the reset input is not pulsed (log 3, 6, 8). -/
def State.reset : State :=
  { queueX := Queue.initial
    queueY := Queue.initial
    queueZ := Queue.initial
    queueT := Queue.initial
    zeroX := Config.zeroReset
    zeroY := Config.zeroReset
    zeroZ := Config.zeroReset
    range := Config.rangeReset
    csAsserted := false
    busy := false
    phase := .idle
    resetIn := false
    commands := []
    responses := []
    answers := []
    trace := [] }

end Sys2Proof.Machine
end

