-- ==== Sys2Proof/Machine/Flags.lean ====
section
/-! DEFINITION. The block has no flags (spec/10_state.md R25). In their place each response carries a 2-bit status
(spec/30_encoding.md R67; spec/60_exceptions.md R160 to R162); this file says which status a command meets. -/

namespace Sys2Proof.Machine

/-- The 2-bit code of a status (R67, R162). -/
def Status.code : Status → BitVec 2
  | .ok => 0
  | .sat => 1
  | .empty => 2
  | .refused => 3

/-- SAT exactly when TAIL was at the saturation bound before the store (R101, R161). -/
def pushStatus (tail : Index) : Status := if tail < Config.saturationBound then .ok else .sat

/-- EMPTY exactly when no unread sample is left (R103, R161). -/
def popStatus (head tail : Index) : Status := if head < tail then .ok else .empty

/-- The range values WRCFG accepts, compared on all 32 bits (spec/43_session.md R138). -/
def legalRange (v : Sample) : Bool := v == 2 || v == 4 || v == 8

end Sys2Proof.Machine
end

