-- ==== Sys2Proof/Machine/Operands.lean ====
section
/-! DEFINITION. How words are put together and taken apart: register words and FIFO words from bytes
(spec/20_memory.md R44, R45), the tag and the tag-stripped word (spec/40_codec.md R83), and the layouts of response
beats (spec/30_encoding.md R68). -/

namespace Sys2Proof.Machine

/-- A register word from two register reads, the high byte first (R45). -/
def registerWord (hi lo : Byte) : RawWord := (hi.setWidth 16 <<< 8) ||| lo.setWidth 16

/-- A FIFO word from two burst bytes, the least significant byte first (R44). -/
def fifoWord (lsb msb : Byte) : RawWord := (msb.setWidth 16 <<< 8) ||| lsb.setWidth 16

/-- `axisTag`: bits 15:14 as an axis (R83). -/
def axisTag (w : RawWord) : Axis := Axis.ofCode (w.extractLsb' 14 2)

/-- The tag-stripped word, `w & 0x3FFF` (R83). -/
def stripTag (w : RawWord) : RawWord := w &&& Config.fifoMask

/-- The beat of a sign-magnitude pair: bits 31:12 zero, bit 11 the sign, bits 10:0 the magnitude (R68). -/
def pairBeat (p : Bool × Magnitude) : Sample := (BitVec.ofBool p.1 ++ p.2).setWidth 32

/-- The beat of an axis code, zero-extended (R68). -/
def axisBeat (a : Axis) : Sample := a.code.setWidth 32

/-- The beat of a signed value, sign-extended to 32 bits (R68). -/
def signedBeat (n : Int) : Sample := wrap32 n

/-- The beat of an index register, zero-extended (R68). -/
def indexBeat (i : Index) : Sample := i.setWidth 32

end Sys2Proof.Machine
end

