-- ==== Sys2Proof/Machine/Ops.lean ====
section
/-! DEFINITION. The operations every meaning is written over: one backing array, one queue, the queues and the
configuration registers by name, the response port, the bus primitives and the reset input. The block takes no
exceptions and returns from none (spec/60_exceptions.md R166, R167); what stands in their place is the response. -/

namespace Sys2Proof.Machine

/-! The backing arrays (spec/20_memory.md R40). -/

/-- The slot at an index; no value where nothing has been written (R34). -/
def Memory.read : Memory → Nat → Option Sample
  | [], _ => none
  | (j, v) :: rest, i => if i = j then some v else Memory.read rest i

/-- Store a slot, keeping the canonical form. -/
def Memory.write : Memory → Nat → Sample → Memory
  | [], i, v => [(i, v)]
  | (j, u) :: rest, i, v =>
    if i < j then (i, v) :: (j, u) :: rest
    else if i = j then (i, v) :: rest
    else (j, u) :: Memory.write rest i v

/-- `n` slots from index `i` on, each holding `v`. -/
def Memory.fillFrom : Nat → Nat → Sample → Memory
  | 0, _, _ => []
  | n + 1, i, v => (i, v) :: Memory.fillFrom n (i + 1) v

/-- All 512 slots holding `v` (spec/41_queue.md R106). -/
def Memory.filled (v : Sample) : Memory := Memory.fillFrom Config.capacity 0 v

/-- The indices rise strictly, start at `lo` or above and stay below 512. -/
def Memory.wfFrom : Nat → Memory → Bool
  | _, [] => true
  | lo, (j, _) :: rest => decide (lo ≤ j) && decide (j < Config.capacity) && Memory.wfFrom (j + 1) rest

/-- The canonical form: indices strictly rising, all below 512. What an unlisted slot reads as is no value, so no
entry can equal it. -/
def Memory.wf (m : Memory) : Bool := Memory.wfFrom 0 m

/-! One queue (spec/41_queue.md section 2). -/

/-- `pushBack` (R101): store at TAIL, advance TAIL below the saturation bound. HEAD is not touched. -/
def Queue.pushBack (q : Queue) (v : Sample) : Queue :=
  { q with
    mem := q.mem.write q.tail.toNat v
    tail := if q.tail < Config.saturationBound then q.tail + 1 else q.tail }

/-- `popFront` (R103): the status, the sample and the queue after; no value if the slot to be read holds none. -/
def Queue.popFront (q : Queue) : Option (Status × Sample × Queue) :=
  if q.head < q.tail then
    match q.mem.read q.head.toNat with
    | some v => some (popStatus q.head q.tail, v, { q with head := q.head + 1 })
    | none => none
  else some (popStatus q.head q.tail, Config.emptyDefault, { q with head := 0, tail := 0 })

/-- `reset(a)` (R106): both indices 0, every slot the fill value. -/
def Queue.clear : Queue := { mem := Memory.filled Config.fill, head := 0, tail := 0 }

/-- `n` pops in a row: the samples in pop order and the queue after (the loop of R107). -/
def Queue.popMany : Nat → Queue → Option (List Sample × Queue)
  | 0, q => some ([], q)
  | n + 1, q =>
    match q.popFront with
    | none => none
    | some (_, v, q') =>
      match Queue.popMany n q' with
      | none => none
      | some (vs, q'') => some (v :: vs, q'')

/-! The queues and the configuration registers by name (spec/00_scope.md R17). -/

/-- Queue `a`. -/
def State.queue (s : State) : Axis → Queue
  | .x => s.queueX
  | .y => s.queueY
  | .z => s.queueZ
  | .t => s.queueT

/-- Replace queue `a`. -/
def State.setQueue (s : State) (a : Axis) (q : Queue) : State :=
  match a with
  | .x => { s with queueX := q }
  | .y => { s with queueY := q }
  | .z => { s with queueZ := q }
  | .t => { s with queueT := q }

/-- `ZERO[a]`; Temperature has none (spec/10_state.md R27). -/
def State.zeroOffset (s : State) : Axis → Option Sample
  | .x => some s.zeroX
  | .y => some s.zeroY
  | .z => some s.zeroZ
  | .t => none

/-- A configuration register as RDCFG returns it, RANGE zero-extended (R41, R50). -/
def State.readCfg (s : State) : CfgReg → Sample
  | .zx => s.zeroX
  | .zy => s.zeroY
  | .zz => s.zeroZ
  | .range => s.range.setWidth 32

/-- Write a configuration register; an illegal range is not written (spec/43_session.md R137, R138). -/
def State.writeCfg (s : State) (r : CfgReg) (v : Sample) : State :=
  match r with
  | .zx => { s with zeroX := v }
  | .zy => { s with zeroY := v }
  | .zz => { s with zeroZ := v }
  | .range => if legalRange v then { s with range := v.setWidth 8 } else s

/-! The ports (spec/30_encoding.md R60, R67). -/

/-- Take the word on the command port: the host presents its next one, `BUSY` becomes 1 (R60). -/
def State.accept (s : State) : State := { s with commands := s.commands.drop 1, busy := true }

/-- `respond` (spec/00_scope.md R18): end the command with its one response; `BUSY` becomes 0 (R60). -/
def State.respond (s : State) (st : Status) (beats : List Sample) : State :=
  { s with responses := { status := st, beats := beats } :: s.responses, busy := false, phase := .idle }

/-- The response of a refused command: REFUSED, no beat, nothing changed (spec/60_exceptions.md R160; log 2). -/
def State.refuse (s : State) : State := s.respond .refused []

/-- The bytes the bus peer still holds become `bs`. -/
def State.setAnswers (s : State) (bs : List Byte) : State := { s with answers := bs }

/-! The bus primitives (spec/00_scope.md R18). The peer's answer comes later, byte by byte, in `deliver`. -/

/-- The bus peer sees one more operation. -/
def State.emit (s : State) (e : BusEvent) : State := { s with trace := e :: s.trace }

/-- Wait in phase `p` for the peer's answer: the command in progress has no response yet. -/
def State.await (s : State) (p : Phase) : State := { s with busy := true, phase := p }

/-- Ask for one register and wait in phase `p` (RegRead). -/
def State.askReg (s : State) (addr : Byte) (p : Phase) : State := (s.emit (.regRead addr)).await p

/-- Send one byte and wait in phase `p` (BusExchange). -/
def State.askExchange (s : State) (tx : Byte) (p : Phase) : State := (s.emit (.exchange tx)).await p

/-- Drive chip-select low (CsAssert). -/
def State.assertCs (s : State) : State := { s with csAsserted := true, trace := .csAssert :: s.trace }

/-- Release chip-select (CsDeassert). -/
def State.releaseCs (s : State) : State := { s with csAsserted := false, trace := .csDeassert :: s.trace }

/-! Reset and abandoning a command (spec/10_state.md R36, R37). -/

/-- Drop the command in progress without a response: chip-select released, `BUSY` 0 (R36, R37, R181). -/
def State.abandon (s : State) : State :=
  { (if s.csAsserted then s.releaseCs else s) with busy := false, phase := .idle }

/-- The reset input: the block's state becomes that of `State.reset`; the sensor, the host's words and the responses
already given are outside it (R37, R181; log 8). The pulse is over. -/
def State.applyReset (s : State) : State :=
  { State.reset with
    commands := s.commands
    responses := s.responses
    answers := s.answers
    trace := s.abandon.trace }

end Sys2Proof.Machine
end

