-- ==== Sys2Proof/Machine/Codec.lean ====
section
/-! DEFINITION. WireCodec (spec/40_codec.md): the three pure functions and the commands DEC15, DEC13, SGN15, SGN13, TAG
and SCALE. None of these commands writes any state of the block or uses the bus. -/

namespace Sys2Proof.Machine

/-- `NEG_ADJ` as the 16-bit number added after the inversion (R81; spec/00_scope.md R11). -/
def negAdjWord : Config.NegAdj → RawWord
  | .plusOne => 1
  | .minusOne => -1

/-- `dec11` (R81) for either legal value of `NEG_ADJ`: the sign bit `sb`, and the low 11 bits or, for a negative
word, their inversion with the correction added, kept to 11 bits. -/
def dec11With (adj : Config.NegAdj) (w : RawWord) (sb : Nat) : Bool × Magnitude :=
  if w.getLsbD sb then (true, (((w ^^^ Config.magMask) + negAdjWord adj) &&& Config.magMask).setWidth 11)
  else (false, (w &&& Config.magMask).setWidth 11)

/-- `dec11` of this hardware (R81; log 1). -/
def dec11 (w : RawWord) (sb : Nat) : Bool × Magnitude := dec11With Config.negAdj w sb

/-- The signed integer of a sign-magnitude pair (R82). -/
def pairValue (p : Bool × Magnitude) : Int := if p.1 then -(p.2.toNat : Int) else p.2.toNat

/-- `sval` (R82). -/
def sval (w : RawWord) (sb : Nat) : Int := pairValue (dec11 w sb)

/-- The decode of a FIFO word: tag removed, sign at bit 13 (R87). -/
def decFifo (w : RawWord) : Bool × Magnitude := dec11 (stripTag w) Config.sbitFifo

/-- `scaleSample` (R84): multiply by 1000, divide by 2000 / range, both divisions truncating toward zero, add the
offset and wrap. No value for range 0 (U1; log 14). -/
def scaleSample (p : Bool × Magnitude) (range : Byte) (zero : Sample) : Option Sample :=
  if range = 0 then none
  else
    let d := Int.tdiv Config.kSpan range.toNat
    let q := Int.tdiv (pairValue p * Config.kMilli) d
    some (wrap32 (q + zero.toInt))

/-- DEC15 (R86). -/
def execDec15 (w : RawWord) (s : State) : Host.Outcome State Fault Refusal :=
  .next (s.respond .ok [pairBeat (dec11 w Config.sbitReg)])

/-- DEC13 (R87). -/
def execDec13 (w : RawWord) (s : State) : Host.Outcome State Fault Refusal :=
  .next (s.respond .ok [pairBeat (decFifo w)])

/-- SGN15 (R88). -/
def execSgn15 (w : RawWord) (s : State) : Host.Outcome State Fault Refusal :=
  .next (s.respond .ok [signedBeat (sval w Config.sbitReg)])

/-- SGN13 (R89). -/
def execSgn13 (w : RawWord) (s : State) : Host.Outcome State Fault Refusal :=
  .next (s.respond .ok [signedBeat (pairValue (decFifo w))])

/-- TAG (R90). -/
def execTag (w : RawWord) (s : State) : Host.Outcome State Fault Refusal :=
  .next (s.respond .ok [axisBeat (axisTag w)])

/-- SCALE (R91). An axis without an offset is refused (spec/30_encoding.md R66 item 4; log 16). -/
def execScale (a : Axis) (neg : Bool) (m : Magnitude) (s : State) : Host.Outcome State Fault Refusal :=
  match s.zeroOffset a with
  | none => .next s.refuse
  | some z =>
    match scaleSample (neg, m) s.range z with
    | none => .refused .rangeZero
    | some v => .next (s.respond .ok [v])

end Sys2Proof.Machine
end

