-- ==== Sys2Proof/Machine/Bus.lean ====
section
/-! DEFINITION. The commands that talk to the bus peer, cut into the phases of spec/42_drainer.md R126: what the block
does with each byte the peer returns (`deliver`), and running a command on all the bytes at hand (`resume`). A command
whose next byte has not come waits, with `BUSY` 1 and no response, for ever if it never comes (spec/20_memory.md R48). -/

namespace Sys2Proof.Machine

/-- Decode, scale and push one FIFO word (R122); a Temperature word is discarded (R123). -/
def State.routeWord (s : State) (w : RawWord) : Option State :=
  match s.zeroOffset (axisTag w) with
  | none => some s
  | some z =>
    match scaleSample (decFifo w) s.range z with
    | none => none
    | some v => some (s.setQueue (axisTag w) ((s.queue (axisTag w)).pushBack v))

/-- Route words in input order (R122). -/
def State.routeAll : List RawWord → State → Option State
  | [], s => some s
  | w :: ws, s =>
    match s.routeWord w with
    | none => none
    | some s' => State.routeAll ws s'

/-- P3 (R126): the count is known (R120). A burst begins if it is positive (R121), else the command is done. -/
def State.gotCount (s : State) (count : Int) : State :=
  if 0 < count then s.assertCs.askExchange Config.cmdFifoRead (.burstCmd count.toNat)
  else s.respond .ok []

/-- A word of the burst is complete (R121): ask for the next one, or release chip-select and, as P7 and P8 say, route
all words and respond. `words` is newest first. -/
def State.gotWord (s : State) (left : Nat) (words : List RawWord) : Option State :=
  if 1 < left then some (s.askExchange Config.txFill (.burstLsb (left - 1) words))
  else
    match s.releaseCs.routeAll words.reverse with
    | none => none
    | some s' => some (s'.respond .ok [])

/-- RDAXIS has its word (spec/43_session.md R136): scaled for an axis with an offset, the signed value for T. -/
def State.gotAxisWord (s : State) (a : Axis) (raw : RawWord) : Option State :=
  match s.zeroOffset a with
  | none => some (s.respond .ok [signedBeat (sval raw Config.sbitReg)])
  | some z =>
    match scaleSample (dec11 raw Config.sbitReg) s.range z with
    | none => none
    | some v => some (s.respond .ok [v])

/-- What the command in progress does with the next byte `b` of the peer. The byte that comes with the command byte
is discarded (R121; log 15). -/
def State.deliver (s : State) (b : Byte) : Option State :=
  match s.phase with
  | .idle => some s
  | .countHi => some (s.askReg Config.addrFifoEntriesL (.countLo b))
  | .countLo hi => some (s.gotCount (sval (registerWord hi b) Config.sbitReg))
  | .burstCmd left => some (s.askExchange Config.txFill (.burstLsb left []))
  | .burstLsb left words => some (s.askExchange Config.txFill (.burstMsb left words b))
  | .burstMsb left words lsb => s.gotWord left (fifoWord lsb b :: words)
  | .axisHi a => some (s.askReg (Config.addrDataL a) (.axisLo a b))
  | .axisLo a hi => s.gotAxisWord a (registerWord hi b)

/-- Run the command in progress on the bytes `bs`, which are `s.answers`, until it responds or they run out. -/
def State.feed : List Byte → State → Host.Outcome State Fault Refusal
  | [], s => .next s
  | b :: bs, s =>
    if s.phase = .idle then .next s
    else
      match (s.setAnswers bs).deliver b with
      | none => .refused .rangeZero
      | some s' => State.feed bs s'

/-- Run the command in progress on the answers at hand (log 3, 4, 5). -/
def State.resume (s : State) : Host.Outcome State Fault Refusal := State.feed s.answers s

end Sys2Proof.Machine
end

