-- ==== Sys2Proof/Machine/Drainer.lean ====
section
/-! DEFINITION. FifoDrainer (spec/42_drainer.md): the command FDRAIN. -/

namespace Sys2Proof.Machine

/-- FDRAIN (R124): ask for the high byte of the count (R120) and go on with the bytes the peer returns. -/
def execFdrain (s : State) : Host.Outcome State Fault Refusal :=
  (s.askReg Config.addrFifoEntriesH .countHi).resume

end Sys2Proof.Machine
end

