-- ==== Sys2Proof/Machine/Queues.lean ====
section
/-! DEFINITION. AxisQueue (spec/41_queue.md): the commands PUSH, POP, SIZE, QDRAIN, QRESET, FRONT and BACK. -/

namespace Sys2Proof.Machine

/-- PUSH (R102). -/
def execPush (a : Axis) (v : Sample) (s : State) : Host.Outcome State Fault Refusal :=
  .next ((s.setQueue a ((s.queue a).pushBack v)).respond (pushStatus (s.queue a).tail) [])

/-- POP (R104). -/
def execPop (a : Axis) (s : State) : Host.Outcome State Fault Refusal :=
  match (s.queue a).popFront with
  | none => .fault (.unwrittenSlot a)
  | some (st, v, q) => .next ((s.setQueue a q).respond st [v])

/-- SIZE (R105): TAIL, not TAIL - HEAD. -/
def execSize (a : Axis) (s : State) : Host.Outcome State Fault Refusal :=
  .next (s.respond .ok [indexBeat (s.queue a).tail])

/-- QDRAIN (R107): the size is read once, before the first pop (log 15). -/
def execQdrain (a : Axis) (s : State) : Host.Outcome State Fault Refusal :=
  match (s.queue a).popMany (s.queue a).tail.toNat with
  | none => .fault (.unwrittenSlot a)
  | some (vs, _) => .next ((s.setQueue a Queue.clear).respond .ok vs)

/-- QRESET (R106). -/
def execQreset (a : Axis) (s : State) : Host.Outcome State Fault Refusal :=
  .next ((s.setQueue a Queue.clear).respond .ok [])

/-- FRONT (R108): always answered REFUSED (log 2). -/
def execFront (_ : Axis) (s : State) : Host.Outcome State Fault Refusal := .next s.refuse

/-- BACK (R108): always answered REFUSED (log 2). -/
def execBack (_ : Axis) (s : State) : Host.Outcome State Fault Refusal := .next s.refuse

end Sys2Proof.Machine
end

