-- ==== Sys2Proof/Machine/Session.lean ====
section
/-! DEFINITION. Session operations (spec/43_session.md): the commands RDAXIS, WRCFG and RDCFG. -/

namespace Sys2Proof.Machine

/-- RDAXIS (R136): ask for the axis's high data register and go on with the bytes the peer returns. -/
def execRdaxis (a : Axis) (s : State) : Host.Outcome State Fault Refusal :=
  (s.askReg (Config.addrDataH a) (.axisHi a)).resume

/-- WRCFG to a zero-offset register (R137). RANGE is no register of this variant (log 16). -/
def execWrcfgZero (r : CfgReg) (v : Sample) (s : State) : Host.Outcome State Fault Refusal :=
  if r = .range then .next s.refuse else .next ((s.writeCfg r v).respond .ok [])

/-- WRCFG to the range register (R138): an illegal value is refused and nothing changes (log 2). -/
def execWrcfgRange (v : Sample) (s : State) : Host.Outcome State Fault Refusal :=
  if legalRange v then .next ((s.writeCfg .range v).respond .ok []) else .next s.refuse

/-- RDCFG (R139). -/
def execRdcfg (r : CfgReg) (s : State) : Host.Outcome State Fault Refusal :=
  .next (s.respond .ok [s.readCfg r])

end Sys2Proof.Machine
end

