-- ==== Sys2Proof/Machine/Dispatch.lean ====
section
/-! DEFINITION. One arm per command (spec/30_encoding.md R64). -/

namespace Sys2Proof.Machine

def exec (i : Instr) (s : State) : Host.Outcome State Fault Refusal :=
  match i with
  | .dec15 w => Sys2Proof.Machine.execDec15 w s
  | .dec13 w => Sys2Proof.Machine.execDec13 w s
  | .sgn15 w => Sys2Proof.Machine.execSgn15 w s
  | .sgn13 w => Sys2Proof.Machine.execSgn13 w s
  | .tag w => Sys2Proof.Machine.execTag w s
  | .scale a neg m => Sys2Proof.Machine.execScale a neg m s
  | .push a v => Sys2Proof.Machine.execPush a v s
  | .pop a => Sys2Proof.Machine.execPop a s
  | .size a => Sys2Proof.Machine.execSize a s
  | .qdrain a => Sys2Proof.Machine.execQdrain a s
  | .qreset a => Sys2Proof.Machine.execQreset a s
  | .front a => Sys2Proof.Machine.execFront a s
  | .back a => Sys2Proof.Machine.execBack a s
  | .fdrain => Sys2Proof.Machine.execFdrain s
  | .rdaxis a => Sys2Proof.Machine.execRdaxis a s
  | .wrcfgZero r v => Sys2Proof.Machine.execWrcfgZero r v s
  | .wrcfgRange v => Sys2Proof.Machine.execWrcfgRange v s
  | .rdcfg r => Sys2Proof.Machine.execRdcfg r s

end Sys2Proof.Machine
end

