-- ==== Sys2Proof/Machine/Port.lean ====
section
/-! DEFINITION. The command port (spec/30_encoding.md R60): which word the block takes next, and placing a word there. -/

namespace Sys2Proof.Machine

/-- The word on the command port, if the host presents one (R60; log 6). -/
def State.portWord (s : State) : Option CmdWord := s.commands.head?

/-- Put `c` on the command port in place of the word there, with the block ready to take it: `BUSY` 0 (R60) and no
reset pulse. A command in progress is abandoned as a reset would (log 17). -/
def State.present (s : State) (c : CmdWord) : State :=
  { (if s.busy then s.abandon else s) with commands := c :: s.commands.drop 1, resetIn := false }

end Sys2Proof.Machine
end

