-- ==== Sys2Proof/Machine/Step.lean ====
section
/-! DEFINITION. One step of the machine: a reset pulse, else the command in progress with the answers that have come,
else the word on the command port (spec/10_state.md R37; spec/30_encoding.md R60, R65; log 5, 6, 8). -/

namespace Sys2Proof.Machine

/-- A reset pulse comes before all else (R37). While `BUSY` is 1 the port takes no word (R60, R184): the command in
progress goes on, or stays as it is if no answer has come (spec/20_memory.md R48). Otherwise the word on the port is
taken and decoded (R65); a word the decoder refuses gets the response REFUSED (R66; log 2). With no word on the port
nothing changes (spec/00_scope.md R14). -/
def step (s : State) : Host.Outcome State Fault Refusal :=
  if s.resetIn then .next s.applyReset
  else if s.busy then s.resume
  else
    match s.portWord with
    | none => .next s
    | some c =>
      match decode c with
      | .error _ => .next s.accept.refuse
      | .ok i => exec i s.accept

/-- `s` with an instruction, given by its bits as spec/opcode_table.json numbers them, on the command port, so that
the very next step takes it (log 6, 17). -/
def State.withFetchWord (s : State) (nbits w : Nat) : State := s.present (tableWord nbits w)

end Sys2Proof.Machine
end

