-- ==== Sys2Proof/Machine/HostProcedures.lean ====
section
/-! DEFINITION. The computations of the host procedures `calibrateZero` and `setRange` (spec/44_host_procedures.md
R146, R147). They run in host software, outside the block (spec/00_scope.md R7): no instruction and no step calls them.
They are here so that what the host writes with WRCFG can be stated (log 19). -/

namespace Sys2Proof.Machine

/-- `CAL_N`, the reads averaged per axis (spec/00_scope.md R10). -/
def calReads : Nat := 100

/-- The calibration targets (R10, R146): X 0, Y 0, Z 1000; Temperature is not calibrated. -/
def calTarget : Axis → Option Int
  | .x => some 0
  | .y => some 0
  | .z => some 1000
  | .t => none

/-- `zero_new` of R146 from the old offset and the readings of one axis (log 19). -/
def calibratedZero (target : Int) (zeroOld : Sample) (readings : List Sample) : Sample :=
  wrap32 (target - (Int.tdiv (readings.map BitVec.toInt).sum calReads - zeroOld.toInt))

/-- The filter-control byte `setRange` writes back (R147); no value for a range that is not 2, 4 or 8. -/
def filterByteFor (newRange : Byte) (f : Byte) : Option Byte :=
  if newRange = 8 then some (f ||| 0x80)
  else if newRange = 4 then some ((f ||| 0x40) &&& 0x7F)
  else if newRange = 2 then some (f &&& 0x3F)
  else none

/-- `rangeOf`: the range the re-read filter-control byte stands for (R147; the inverse the spec infers, log 19). -/
def rangeOfFilterByte (g : Byte) : Byte :=
  if g.extractLsb' 6 2 = 0 then 2 else if g.extractLsb' 6 2 = 1 then 4 else 8

end Sys2Proof.Machine
end

