-- ==== Sys2Proof/Safety.lean ====
section
/-! DEFINITION. What counts as a sound state and a safe step, and the words the statements about commands are written
in: what a response is, what a command leaves as it was, and commands run one after the other. -/

namespace Sys2Proof.Machine

/-! The invariant. -/

/-- A sound queue: `HEAD <= TAIL` (spec/10_state.md R30), the backing array in canonical form, and every slot below
TAIL written (R31). -/
abbrev Queue.Sound (q : Queue) : Prop :=
  q.head ≤ q.tail ∧ q.mem.wf = true ∧ ∀ i, i < q.tail.toNat → (q.mem.read i).isSome = true

/-- The phases in which chip-select is asserted (spec/42_drainer.md R125, R126). -/
def Phase.inBurst : Phase → Bool
  | .burstCmd _ => true
  | .burstLsb _ _ => true
  | .burstMsb _ _ _ => true
  | .idle => false
  | .countHi => false
  | .countLo _ => false
  | .axisHi _ => false
  | .axisLo _ _ => false

/-- The words of a burst, read and still to be read, are between 1 and 2047 (R120, R121). -/
def Phase.countsSound : Phase → Bool
  | .burstCmd left => decide (1 ≤ left) && decide (left ≤ 2047)
  | .burstLsb left words => decide (1 ≤ left) && decide (left + words.length ≤ 2047)
  | .burstMsb left words _ => decide (1 ≤ left) && decide (left + words.length ≤ 2047)
  | .idle => true
  | .countHi => true
  | .countLo _ => true
  | .axisHi _ => true
  | .axisLo _ _ => true

/-- The invariant of the block: the four queues are sound (R30, R31), RANGE is 2, 4 or 8 (R26), `BUSY` is 1 exactly
while a command is in progress (spec/30_encoding.md R60), chip-select is asserted exactly inside a burst (R125), and a
burst is between 1 and 2047 words long (R120). -/
abbrev State.Inv (s : State) : Prop :=
  (s.queueX.Sound ∧ s.queueY.Sound ∧ s.queueZ.Sound ∧ s.queueT.Sound) ∧
  (s.range = 2 ∨ s.range = 4 ∨ s.range = 8) ∧
  (s.busy = decide (s.phase ≠ .idle)) ∧
  (s.csAsserted = s.phase.inBurst) ∧
  (s.phase.countsSound = true)

/-- A safe step: it answers a next state, so it neither faults nor refuses. -/
def SafeOutcome (o : Host.Outcome State Fault Refusal) : Prop := ∃ t, o = .next t

/-! Which words are refused. -/

/-- The words R66 lists as refused, by the numbers of their fields: `op` is OP, `ax` is AX, `data` is DATA. -/
def RefusedWord (c : CmdWord) : Prop :=
  let op := c.toNat / 2 ^ 34
  let ax := c.toNat / 2 ^ 32 % 4
  let data := c.toNat % 2 ^ 32
  (op = 0x00 ∨ op = 0x07 ∨ op = 0x0F ∨ (0x12 ≤ op ∧ op ≤ 0x17) ∨ 0x1A ≤ op) ∨
  ((op = 0x10 ∨ (0x01 ≤ op ∧ op ≤ 0x05)) ∧ ax ≠ 0) ∨
  ((0x01 ≤ op ∧ op ≤ 0x05) ∧ 2 ^ 16 ≤ data) ∨
  (op = 0x06 ∧ 2 ^ 12 ≤ data) ∨
  (((0x09 ≤ op ∧ op ≤ 0x0E) ∨ op = 0x10 ∨ op = 0x11 ∨ op = 0x19) ∧ data ≠ 0) ∨
  (op = 0x06 ∧ ax = 3) ∨
  (op = 0x0D ∨ op = 0x0E)

/-! What a command answers and what it leaves as it was. -/

/-- From `s` to `t` one command ended with the response `st`, `beats` (R60, R67). -/
def Answered (st : Status) (beats : List Sample) (s t : State) : Prop :=
  t.responses = { status := st, beats := beats } :: s.responses ∧ t.busy = false ∧ t.phase = .idle

/-- Every queue except perhaps `a` is as it was: its two indices and each of its slots. -/
def SameQueuesBut (a : Axis) (s t : State) : Prop :=
  ∀ b, b ≠ a → t.queue b = s.queue b

/-- Every queue is as it was: its two indices and each of its slots. -/
def SameQueues (s t : State) : Prop := ∀ b, t.queue b = s.queue b

/-- The four configuration registers are as they were. -/
def SameConfig (s t : State) : Prop :=
  t.zeroX = s.zeroX ∧ t.zeroY = s.zeroY ∧ t.zeroZ = s.zeroZ ∧ t.range = s.range

/-- No bus operation: chip-select, the operations the peer has seen and the answers it holds are as they were. -/
def SameBus (s t : State) : Prop :=
  t.csAsserted = s.csAsserted ∧ t.trace = s.trace ∧ t.answers = s.answers

/-- The host's side is as it was: the words it will present and the reset input. -/
def SameHost (s t : State) : Prop := t.commands = s.commands ∧ t.resetIn = s.resetIn

/-- Nothing is changed but what a response changes (`Answered`). -/
def Unchanged (s t : State) : Prop := SameQueues s t ∧ SameConfig s t ∧ SameBus s t ∧ SameHost s t

/-! Commands and pushes one after the other. -/

/-- Run instructions in order, stopping at the first that does not answer a next state. -/
def execAll : List Instr → State → Host.Outcome State Fault Refusal
  | [], s => .next s
  | i :: is, s =>
    match exec i s with
    | .next t => execAll is t
    | .fault r => .fault r
    | .refused r => .refused r

/-- Change the state of an outcome that is a next state. -/
def mapNext (f : State → State) : Host.Outcome State Fault Refusal → Host.Outcome State Fault Refusal
  | .next t => .next (f t)
  | .fault r => .fault r
  | .refused r => .refused r

/-- `ZERO[a]` is `z`: which register is the offset of which axis (spec/10_state.md R27); no register is T's. -/
def OffsetIs (s : State) (a : Axis) (z : Sample) : Prop :=
  (a = .x ∧ z = s.zeroX) ∨ (a = .y ∧ z = s.zeroY) ∨ (a = .z ∧ z = s.zeroZ)

/-- The sample that FDRAIN makes of a FIFO word for the axis `a`, scaled with that axis's offset register (R27;
spec/42_drainer.md R122): none for T (R123). -/
def sampleOf (s : State) (w : RawWord) : Axis → Option Sample
  | .x => scaleSample (decFifo w) s.range s.zeroX
  | .y => scaleSample (decFifo w) s.range s.zeroY
  | .z => scaleSample (decFifo w) s.range s.zeroZ
  | .t => none

/-- The samples of one axis that a burst of words carries, in input order (R122, R128): none for T. -/
def samplesFor (s : State) (a : Axis) (words : List RawWord) : List Sample :=
  words.filterMap fun w => if axisTag w = a then sampleOf s w a else none

/-- Push samples one after the other. -/
def Queue.pushAll (vs : List Sample) (q : Queue) : Queue := vs.foldl Queue.pushBack q

/-- The bytes of a FIFO word as a burst brings them, least significant first (spec/20_memory.md R44). -/
def wordBytes (w : RawWord) : List Byte := [w.extractLsb' 0 8, w.extractLsb' 8 8]

end Sys2Proof.Machine
end

