-- ==== Sys2Proof/Certificates/Slice0/Obligations.lean ====
section
/-! DEFINITION. The statements for the provers, from the numbered rules of spec/. Each docstring names the rules; what is
the model's own choice names its log entry. -/

open Sys2Proof Sys2Proof.Machine

/-! Encoding (spec/30_encoding.md). -/

/-- R62, R64: decoding the word of a well-formed instruction gives it back, with every operand at every value. -/
def Obligations.DecodeEncodeRoundTrip : Prop :=
  ∀ i : Instr, i.wellFormed = true → decode (encode i) = .ok i

/-- R65: a word decodes to one command only, and that command's word is the word: no bit is dropped. -/
def Obligations.DecodedWordIsItsEncoding : Prop :=
  ∀ (c : CmdWord) (i : Instr), decode c = .ok i → i.wellFormed = true ∧ encode i = c

/-- R16, R41, R62, R64, R69: for every row of the opcode table a word the spec writes out (R69; spec/95_test_vectors.md), and
for the axes and the configuration registers one word each, decode to the commands they stand for. -/
def Obligations.ExampleWordsDecode : Prop :=
  decode 0x040000FFFB = .ok (.dec15 0xFFFB) ∧
  decode 0x0800007FCE = .ok (.dec13 0x7FCE) ∧
  decode 0x0C0000FFCE = .ok (.sgn15 0xFFCE) ∧
  decode 0x100000BFFF = .ok (.sgn13 0xBFFF) ∧
  decode 0x1400008032 = .ok (.tag 0x8032) ∧
  decode 0x1900000832 = .ok (.scale .y true 50) ∧
  decode 0x20FFFFFFFB = .ok (.push .x (-5)) ∧
  decode 0x2600000000 = .ok (.pop .z) ∧
  decode 0x2B00000000 = .ok (.size .t) ∧
  decode 0x2D00000000 = .ok (.qdrain .y) ∧
  decode 0x3200000000 = .ok (.qreset .z) ∧
  decode 0x3400000000 = .ok (.front .x) ∧
  decode 0x3900000000 = .ok (.back .y) ∧
  decode 0x4000000000 = .ok .fdrain ∧
  decode 0x4600000000 = .ok (.rdaxis .z) ∧
  decode 0x4700000000 = .ok (.rdaxis .t) ∧
  decode 0x6000000005 = .ok (.wrcfgZero .zx 5) ∧
  decode 0x61FFFFFFF4 = .ok (.wrcfgZero .zy (-12)) ∧
  decode 0x62000003E8 = .ok (.wrcfgZero .zz 1000) ∧
  decode 0x6300000004 = .ok (.wrcfgRange 4) ∧
  decode 0x6400000000 = .ok (.rdcfg .zx) ∧
  decode 0x6600000000 = .ok (.rdcfg .zz) ∧
  decode 0x6700000000 = .ok (.rdcfg .range)

/-- R65, R66: a word that R66 does not list decodes to a command other than FRONT and BACK. -/
def Obligations.WordsNotListedDecode : Prop :=
  ∀ c : CmdWord, ¬ RefusedWord c →
    ∃ i, decode c = .ok i ∧ (∀ a, i ≠ .front a) ∧ (∀ a, i ≠ .back a)

/-- R66, R160: a refused word changes no state, makes no bus operation and gets the response REFUSED without a beat.
That the machine goes on is log 2. -/
def Obligations.RefusedWordsOnlyAnswer : Prop :=
  ∀ (s : State) (c : CmdWord) (rest : List CmdWord),
    s.resetIn = false → s.busy = false → s.commands = c :: rest → RefusedWord c →
    ∃ t, step s = .next t ∧ Answered .refused [] s t ∧ SameQueues s t ∧ SameConfig s t ∧ SameBus s t ∧
      t.commands = rest ∧ t.resetIn = s.resetIn

/-- R63, R68: the beat that DEC15 or DEC13 answers, put in SCALE's DATA field unchanged, is SCALE of the sign and the
magnitude that the word decodes to. -/
def Obligations.DecodedBeatIsScaleOperand : Prop :=
  ∀ (w : RawWord) (a : Axis) (s : State), a ≠ .t →
    (∃ t b, exec (.dec15 w) s = .next t ∧ Answered .ok [b] s t ∧
      decode (cmdWord 0x06 a.code b) = .ok (.scale a (dec11 w 15).1 (dec11 w 15).2)) ∧
    (∃ t b, exec (.dec13 w) s = .next t ∧ Answered .ok [b] s t ∧
      decode (cmdWord 0x06 a.code b) = .ok (.scale a (decFifo w).1 (decFifo w).2))

/-! The machine: the ports, reset, the invariant. -/

/-- R60, R65: with no reset pulse and `BUSY` 0, the word on the command port is taken (the host then presents its next
word, `BUSY` is 1) and the command it decodes to is executed. -/
def Obligations.StepRunsDecodedInstruction : Prop :=
  ∀ (s : State) (c : CmdWord) (rest : List CmdWord) (i : Instr),
    s.resetIn = false → s.busy = false → s.commands = c :: rest → decode c = .ok i →
    step s = exec i { s with commands := rest, busy := true }

/-- R60, R184: while `BUSY` is 1 and there is no reset pulse, a step takes no word from the command port. -/
def Obligations.BusyBlockTakesNoCommand : Prop :=
  ∀ s t : State, s.resetIn = false → s.busy = true → step s = .next t → t.commands = s.commands

/-- R14, R174: with no command pending, no state changes. -/
def Obligations.IdlePortHoldsState : Prop :=
  ∀ s : State, s.resetIn = false → s.busy = false → s.commands = [] → step s = .next s

/-- R37, R181: the reset input gives the reset state (R33 to R36), whatever command was in progress, with no response;
the sensor's answers are untouched. That the pulse comes before all else in a step is log 8. -/
def Obligations.ResetInputResets : Prop :=
  ∀ s : State, s.resetIn = true →
    ∃ t, step s = .next t ∧ (∀ a, t.queue a = State.reset.queue a) ∧ SameConfig State.reset t ∧
      t.csAsserted = false ∧ t.busy = false ∧ t.phase = .idle ∧ t.resetIn = false ∧
      t.commands = s.commands ∧ t.responses = s.responses ∧ t.answers = s.answers ∧
      t.trace = (if s.csAsserted then [.csDeassert] else []) ++ s.trace

/-- R33: after reset both indices of all four queues are 0. -/
def Obligations.ResetLeavesQueuesEmpty : Prop :=
  ∀ a : Axis, (State.reset.queue a).head = 0 ∧ (State.reset.queue a).tail = 0

/-- R34, R35, R36: no slot has a value after reset, RANGE is 2 and the offsets are 0 (values the spec decided, log 9
and 10), chip-select is released, `BUSY` is 0 and no command is in progress. -/
def Obligations.ResetValuesOfTheBlock : Prop :=
  (∀ (a : Axis) (i : Nat), (State.reset.queue a).mem.read i = none) ∧
  State.reset.range = 2 ∧ State.reset.zeroX = 0 ∧ State.reset.zeroY = 0 ∧ State.reset.zeroZ = 0 ∧
  State.reset.csAsserted = false ∧ State.reset.busy = false ∧ State.reset.phase = .idle ∧
  State.reset.responses = []

/-- R30, R31, R26, R60, R125: the invariant holds at reset. -/
def Obligations.ResetStateSound : Prop := State.reset.Inv

/-- R30, R31, R26, R60, R125: every step keeps the invariant, from every state that has it. -/
def Obligations.StepKeepsInvariant : Prop :=
  ∀ s t : State, s.Inv → step s = .next t → t.Inv

/-- R30, R31, R26: from every state with the invariant, a step neither faults nor refuses. -/
def Obligations.SoundStatesNeverStop : Prop :=
  ∀ s : State, s.Inv → SafeOutcome (step s)

/-- R60, R67: a command either ends, with exactly one response and `BUSY` 0, or waits with no response and `BUSY` 1,
which only FDRAIN and RDAXIS do. -/
def Obligations.OneResponsePerCommand : Prop :=
  ∀ (i : Instr) (s t : State), exec i s = .next t →
    (t.busy = false ∧ t.phase = .idle ∧ ∃ r, t.responses = r :: s.responses) ∨
    (t.busy = true ∧ t.phase ≠ .idle ∧ t.responses = s.responses ∧ t.answers = [] ∧
      (i = .fdrain ∨ ∃ a, i = .rdaxis a))

/-- R161, R162, R166: SAT is answered by PUSH only, EMPTY by POP only, and a REFUSED answer has no beat and leaves the
state as it was. -/
def Obligations.StatusBelongsToItsCommand : Prop :=
  ∀ (i : Instr) (s t : State) (st : Status) (bs : List Sample),
    exec i s = .next t → t.responses = { status := st, beats := bs } :: s.responses →
    (st = .sat → ∃ a v, i = .push a v) ∧ (st = .empty → ∃ a, i = .pop a) ∧
    (st = .refused → bs = [] ∧ Unchanged s t)

/-- R54, R60, R37: the meaning of a command within one step does not look at the words the host will present later nor at
the reset input. It is the step that looks at a reset pulse, before all else, and abandons the command (R37;
`ResetInputResets`). That a pulse lands between two steps is the model's choice (log 8), and so is the list of the host's
words (log 6). -/
def Obligations.HostSideDoesNotInfluence : Prop :=
  ∀ (i : Instr) (s : State) (cs : List CmdWord) (rst : Bool),
    exec i { s with commands := cs, resetIn := rst } =
      mapNext (fun t => { t with commands := cs, resetIn := rst }) (exec i s)

/-! WireCodec (spec/40_codec.md). -/

/-- R81: `dec11` gives the sign bit, and the low 11 bits or, for a negative word, their two's-complement negation
within 11 bits (NEG_ADJ = +1, log 1). -/
def Obligations.Dec11NegatesWithinElevenBits : Prop :=
  ∀ (w : RawWord) (sb : Nat), sb = 15 ∨ sb = 13 →
    (dec11 w sb).1 = w.getLsbD sb ∧
    (dec11 w sb).2.toNat =
      if w.getLsbD sb then (2048 - w.toNat % 2048) % 2048 else w.toNat % 2048

/-- R85: the decode of the 16-bit two's-complement form of v is v, for every v from -2047 to 2047, as a register word
and as a FIFO word with any tag; -2048 decodes to 0. -/
def Obligations.SignedDecodeRoundTrip : Prop :=
  (∀ v : Int, -2047 ≤ v → v ≤ 2047 →
    sval (BitVec.ofInt 16 v) 15 = v ∧
    ∀ tag : BitVec 2, pairValue (decFifo (tag ++ BitVec.ofInt 14 v)) = v) ∧
  sval (BitVec.ofInt 16 (-2048)) 15 = 0

/-- R80: bits 14:11 of a register word, and the tag and bits 12:11 of a FIFO word, do not matter. -/
def Obligations.IgnoredBitsDoNotMatter : Prop :=
  ∀ w w' : RawWord, w.setWidth 11 = w'.setWidth 11 →
    (w.getLsbD 15 = w'.getLsbD 15 → dec11 w 15 = dec11 w' 15) ∧
    (w.getLsbD 13 = w'.getLsbD 13 → decFifo w = decFifo w')

/-- R83: `axisTag` is bits 15:14, 0 X, 1 Y, 2 Z, 3 Temperature; the tag-stripped word is the low 14 bits. -/
def Obligations.TagBitsNameTheAxis : Prop :=
  ∀ w : RawWord,
    (axisTag w = .x ↔ w.toNat / 2 ^ 14 = 0) ∧ (axisTag w = .y ↔ w.toNat / 2 ^ 14 = 1) ∧
    (axisTag w = .z ↔ w.toNat / 2 ^ 14 = 2) ∧ (axisTag w = .t ↔ w.toNat / 2 ^ 14 = 3) ∧
    (stripTag w).toNat = w.toNat % 2 ^ 14

/-- R84, derived there: at ranges 2, 4 and 8 the scaled sample is 1, 2 and 4 times the signed value plus the offset,
wrapped to 32 bits (log 12). -/
def Obligations.ScaleFactorsOfLegalRanges : Prop :=
  ∀ (p : Bool × Magnitude) (zero : Sample),
    scaleSample p 2 zero = some (wrap32 (pairValue p + zero.toInt)) ∧
    scaleSample p 4 zero = some (wrap32 (2 * pairValue p + zero.toInt)) ∧
    scaleSample p 8 zero = some (wrap32 (4 * pairValue p + zero.toInt))

/-- R86, R87, R68: DEC15 and DEC13 (format W, OP 0x01 and 0x02) answer OK with one beat, bit 11 the sign and bits 10:0 the magnitude, and change
nothing. -/
def Obligations.SignMagnitudeCommandsAnswer : Prop :=
  ∀ (w : RawWord) (s : State),
    decode (cmdWord 0x01 0 (w.setWidth 32)) = .ok (.dec15 w) ∧
    decode (cmdWord 0x02 0 (w.setWidth 32)) = .ok (.dec13 w) ∧
    (∃ t b, exec (.dec15 w) s = .next t ∧ Answered .ok [b] s t ∧ Unchanged s t ∧
      b.toNat = if w.getLsbD 15 then 2048 + (2048 - w.toNat % 2048) % 2048 else w.toNat % 2048) ∧
    (∃ t b, exec (.dec13 w) s = .next t ∧ Answered .ok [b] s t ∧ Unchanged s t ∧
      b.toNat = if w.getLsbD 13 then 2048 + (2048 - w.toNat % 2048) % 2048 else w.toNat % 2048)

/-- R88, R89, R68: SGN15 and SGN13 (format W, OP 0x03 and 0x04) answer OK with the signed value as `i32` and change nothing. -/
def Obligations.SignedCommandsAnswer : Prop :=
  ∀ (w : RawWord) (s : State),
    decode (cmdWord 0x03 0 (w.setWidth 32)) = .ok (.sgn15 w) ∧
    decode (cmdWord 0x04 0 (w.setWidth 32)) = .ok (.sgn13 w) ∧
    (∃ t b, exec (.sgn15 w) s = .next t ∧ Answered .ok [b] s t ∧ Unchanged s t ∧
      b.toInt = if w.getLsbD 15 then -(((2048 - w.toNat % 2048) % 2048 : Nat) : Int)
        else ((w.toNat % 2048 : Nat) : Int)) ∧
    (∃ t b, exec (.sgn13 w) s = .next t ∧ Answered .ok [b] s t ∧ Unchanged s t ∧
      b.toInt = if w.getLsbD 13 then -(((2048 - w.toNat % 2048) % 2048 : Nat) : Int)
        else ((w.toNat % 2048 : Nat) : Int))

/-- R90: TAG (format W, OP 0x05) answers OK with the axis code of bits 15:14, zero-extended, and changes nothing. -/
def Obligations.TagCommandAnswers : Prop :=
  ∀ (w : RawWord) (s : State), decode (cmdWord 0x05 0 (w.setWidth 32)) = .ok (.tag w) ∧
    ∃ t b, exec (.tag w) s = .next t ∧ Answered .ok [b] s t ∧ Unchanged s t ∧ b.toNat = w.toNat / 2 ^ 14

/-- R91, R84, R27: SCALE (format M, OP 0x06) answers OK with the pair scaled by RANGE and offset by `ZERO[a]`, the register
that WRCFG of `ZX`, `ZY` or `ZZ` writes, and changes nothing; for T it is refused (log 16). Every range but 0 is covered;
0 is `ScalingByRangeZeroStops`. -/
def Obligations.ScaleCommandAnswers : Prop :=
  ∀ (a : Axis) (neg : Bool) (m : Magnitude) (s : State),
    (a ≠ .t → decode (cmdWord 0x06 a.code ((BitVec.ofBool neg ++ m).setWidth 32)) = .ok (.scale a neg m)) ∧
    (∀ z, OffsetIs s a z → s.range ≠ 0 →
      ∃ t, exec (.scale a neg m) s = .next t ∧ Unchanged s t ∧
        Answered .ok
          [wrap32 (Int.tdiv ((if neg then -(m.toNat : Int) else m.toNat) * 1000) (Int.tdiv 2000 s.range.toNat) +
            z.toInt)] s t) ∧
    (a = .t → ∃ t, exec (.scale a neg m) s = .next t ∧ Unchanged s t ∧ Answered .refused [] s t)

/-- U1, R84 and log 14: with RANGE 0, which no sound state has, SCALE, RDAXIS and FDRAIN stop by name when they scale;
FDRAIN scales in every complete burst that holds a word whose tag is not T. -/
def Obligations.ScalingByRangeZeroStops : Prop :=
  ∀ s : State, s.range = 0 →
    (∀ a neg m, a ≠ .t → exec (.scale a neg m) s = .refused .rangeZero) ∧
    (∀ a hi lo rest, a ≠ .t → s.answers = hi :: lo :: rest → exec (.rdaxis a) s = .refused .rangeZero) ∧
    (∀ (hi lo x : Byte) (ws : List RawWord) (rest : List Byte),
      (∃ w ∈ ws, axisTag w ≠ .t) → sval (hi ++ lo : BitVec 16) 15 = ws.length →
      s.answers = hi :: lo :: x :: (ws.flatMap wordBytes ++ rest) → exec .fdrain s = .refused .rangeZero)

/-! AxisQueue (spec/41_queue.md). -/

/-- R101, R102: PUSH (format V, OP 0x08) stores at `TAIL[a]` and advances it while it is below 511 (OK); at 511 it stores at slot 511 and does
not advance (SAT). HEAD, every other slot, queue and register are as they were. -/
def Obligations.PushStoresAtTail : Prop :=
  ∀ (a : Axis) (v : Sample) (s : State), decode (cmdWord 0x08 a.code v) = .ok (.push a v) ∧
    ∃ t, exec (.push a v) s = .next t ∧
      SameQueuesBut a s t ∧ SameConfig s t ∧ SameBus s t ∧ SameHost s t ∧
      (t.queue a).head = (s.queue a).head ∧
      (∀ i, (t.queue a).mem.read i =
        if i = (s.queue a).tail.toNat then some v else (s.queue a).mem.read i) ∧
      ((s.queue a).tail.toNat < 511 →
        Answered .ok [] s t ∧ (t.queue a).tail.toNat = (s.queue a).tail.toNat + 1) ∧
      ((s.queue a).tail.toNat = 511 →
        Answered .sat [] s t ∧ (t.queue a).tail = (s.queue a).tail)

/-- R103, R104: POP (format Q, OP 0x09) with `TAIL > HEAD` answers OK with the sample in slot HEAD and advances HEAD; otherwise it answers
EMPTY with 0 and both indices become 0. No slot, no other queue and no register changes. -/
def Obligations.PopReadsAtHead : Prop :=
  ∀ (a : Axis) (s : State), decode (cmdWord 0x09 a.code 0) = .ok (.pop a) ∧
    (∀ v, (s.queue a).head.toNat < (s.queue a).tail.toNat →
      (s.queue a).mem.read (s.queue a).head.toNat = some v →
      ∃ t, exec (.pop a) s = .next t ∧ Answered .ok [v] s t ∧
        SameQueuesBut a s t ∧ SameConfig s t ∧ SameBus s t ∧ SameHost s t ∧
        (t.queue a).head.toNat = (s.queue a).head.toNat + 1 ∧ (t.queue a).tail = (s.queue a).tail ∧
        (∀ i, (t.queue a).mem.read i = (s.queue a).mem.read i)) ∧
    ((s.queue a).tail.toNat ≤ (s.queue a).head.toNat →
      ∃ t, exec (.pop a) s = .next t ∧ Answered .empty [0] s t ∧
        SameQueuesBut a s t ∧ SameConfig s t ∧ SameBus s t ∧ SameHost s t ∧
        (t.queue a).head = 0 ∧ (t.queue a).tail = 0 ∧
        (∀ i, (t.queue a).mem.read i = (s.queue a).mem.read i))

/-- R34, U11 and log 9: popping a slot that nothing has written, which no sound state allows, is a fault by name, in POP
and in QDRAIN. -/
def Obligations.PopOfUnwrittenSlotFaults : Prop :=
  ∀ (a : Axis) (s : State), (s.queue a).head.toNat < (s.queue a).tail.toNat →
    (s.queue a).mem.read (s.queue a).head.toNat = none →
    exec (.pop a) s = .fault (.unwrittenSlot a) ∧ exec (.qdrain a) s = .fault (.unwrittenSlot a)

/-- R105: SIZE (format Q, OP 0x0A) answers OK with TAIL, zero-extended, and changes nothing. -/
def Obligations.SizeAnswersTail : Prop :=
  ∀ (a : Axis) (s : State), decode (cmdWord 0x0A a.code 0) = .ok (.size a) ∧
    ∃ t b, exec (.size a) s = .next t ∧ Answered .ok [b] s t ∧ Unchanged s t ∧
      b.toNat = (s.queue a).tail.toNat

/-- R106: QRESET (format Q, OP 0x0C) answers OK, sets both indices to 0 and every slot of the queue to -999999, and
changes nothing else. -/
def Obligations.QresetFillsTheQueue : Prop :=
  ∀ (a : Axis) (s : State), decode (cmdWord 0x0C a.code 0) = .ok (.qreset a) ∧
    ∃ t, exec (.qreset a) s = .next t ∧ Answered .ok [] s t ∧
      SameQueuesBut a s t ∧ SameConfig s t ∧ SameBus s t ∧ SameHost s t ∧
      (t.queue a).head = 0 ∧ (t.queue a).tail = 0 ∧
      (∀ i, i < 512 → (t.queue a).mem.read i = some (BitVec.ofInt 32 (-999999)))

/-- R107: QDRAIN (format Q, OP 0x0B) answers OK with the unread samples in order and then zeros, TAIL beats in all, and leaves the queue
reset (R106). `vs` are the samples in slots HEAD to TAIL - 1. -/
def Obligations.QdrainAnswersTheQueue : Prop :=
  ∀ (a : Axis) (s : State) (vs : List Sample),
    decode (cmdWord 0x0B a.code 0) = .ok (.qdrain a) ∧
    (vs.length = (s.queue a).tail.toNat - (s.queue a).head.toNat →
    (∀ j, j < vs.length → (s.queue a).mem.read ((s.queue a).head.toNat + j) = vs[j]?) →
    ∃ t, exec (.qdrain a) s = .next t ∧
      Answered .ok (vs ++ List.replicate ((s.queue a).tail.toNat - vs.length) 0) s t ∧
      SameQueuesBut a s t ∧ SameConfig s t ∧ SameBus s t ∧ SameHost s t ∧
      (t.queue a).head = 0 ∧ (t.queue a).tail = 0 ∧
      (∀ i, i < 512 → (t.queue a).mem.read i = some (BitVec.ofInt 32 (-999999))))

/-- R108: FRONT and BACK (format Q, OP 0x0D and 0x0E) answer REFUSED with no beat and change nothing (log 2). -/
def Obligations.FrontAndBackAreRefused : Prop :=
  ∀ (a : Axis) (s : State),
    decode (cmdWord 0x0D a.code 0) = .ok (.front a) ∧ decode (cmdWord 0x0E a.code 0) = .ok (.back a) ∧
    (∃ t, exec (.front a) s = .next t ∧ Answered .refused [] s t ∧ Unchanged s t) ∧
    (∃ t, exec (.back a) s = .next t ∧ Answered .refused [] s t ∧ Unchanged s t)

/-- R109 items 1 and 2: after any pushes into an empty queue TAIL is their number but at most 511, slots 0 to 510 hold
the first of them in order, and from the 512th on slot 511 holds the most recent. -/
def Obligations.PushesSaturateInOrder : Prop :=
  ∀ (a : Axis) (vs : List Sample) (s : State), (s.queue a).head = 0 → (s.queue a).tail = 0 →
    ∃ t, execAll (vs.map (Instr.push a)) s = .next t ∧
      (t.queue a).head = 0 ∧ (t.queue a).tail.toNat = min vs.length 511 ∧
      (∀ i, i < vs.length → i < 511 → (t.queue a).mem.read i = vs[i]?) ∧
      (512 ≤ vs.length → (t.queue a).mem.read 511 = vs.getLast?) ∧
      SameQueuesBut a s t ∧ SameConfig s t ∧ SameBus s t

/-- R109 item 3, R107 case 4, R110 item 5: QDRAIN after any pushes into an empty queue answers the first 511 of them in
order, and the queue is empty again. -/
def Obligations.QdrainAfterPushesIsFifo : Prop :=
  ∀ (a : Axis) (vs : List Sample) (s : State), (s.queue a).head = 0 → (s.queue a).tail = 0 →
    ∃ t, execAll (vs.map (Instr.push a) ++ [Instr.qdrain a]) s = .next t ∧
      t.responses.head? = some { status := .ok, beats := vs.take 511 } ∧
      (t.queue a).head = 0 ∧ (t.queue a).tail = 0

/-- R22: an operation on queue `a` writes only queue `a` and reads only queue `a`: it leaves the three other queues, the
configuration registers and the bus alone, and from a second state with the same queue `a` it ends in the same way, with
the same response and the same queue `a`. -/
def Obligations.QueuesAreIndependent : Prop :=
  ∀ (i : Instr) (a : Axis) (s : State),
    (i = .pop a ∨ i = .size a ∨ i = .qdrain a ∨ i = .qreset a ∨ i = .front a ∨ i = .back a ∨ ∃ v, i = .push a v) →
    (∀ t, exec i s = .next t → SameQueuesBut a s t ∧ SameConfig s t ∧ SameBus s t) ∧
    (∀ s' : State, s'.queue a = s.queue a →
      (∀ t, exec i s = .next t → ∃ t' r, exec i s' = .next t' ∧ t'.queue a = t.queue a ∧
        t.responses = r :: s.responses ∧ t'.responses = r :: s'.responses) ∧
      (∀ f, exec i s = .fault f → exec i s' = .fault f) ∧
      (∀ f, exec i s = .refused f → exec i s' = .refused f))

/-- R110 item 1: SIZE (that is TAIL) falls only at a POP that finds the queue empty, a QRESET or a QDRAIN. -/
def Obligations.SizeFallsOnlyByEmptying : Prop :=
  ∀ (i : Instr) (a : Axis) (s t : State), exec i s = .next t →
    (t.queue a).tail.toNat < (s.queue a).tail.toNat →
    i = .qreset a ∨ i = .qdrain a ∨ (i = .pop a ∧ (s.queue a).tail.toNat ≤ (s.queue a).head.toNat)

/-- Log 9: in canonical form, backing arrays that read alike are equal as data. -/
def Obligations.CanonicalArraysThatReadAlikeAreEqual : Prop :=
  ∀ m m' : Memory, m.wf = true → m'.wf = true → (∀ i, m.read i = m'.read i) → m = m'

/-! FifoDrainer (spec/42_drainer.md). -/

/-- R120, R121: when the count, the signed value of the two count bytes, is not positive, FDRAIN answers OK, makes the
two register reads and nothing else. -/
def Obligations.FdrainWithoutBurst : Prop :=
  ∀ (s : State) (hi lo : Byte) (rest : List Byte), s.answers = hi :: lo :: rest →
    sval (hi ++ lo : BitVec 16) 15 ≤ 0 →
    ∃ t, exec .fdrain s = .next t ∧ Answered .ok [] s t ∧ SameQueues s t ∧ SameConfig s t ∧ SameHost s t ∧
      t.csAsserted = s.csAsserted ∧ t.answers = rest ∧
      t.trace = .regRead Config.addrFifoEntriesL :: .regRead Config.addrFifoEntriesH :: s.trace

/-- R120 to R122, R125, R128: with a positive count and the bytes of that many words, FDRAIN answers OK; each queue has
had the scaled samples of its axis pushed in input order (none for T); the peer has seen the two register reads and one
chip-select frame holding the command byte and two exchanges of 0x00 for each word; nothing else changes. -/
def Obligations.FdrainDrainsTheBurst : Prop :=
  ∀ (s : State) (hi lo x : Byte) (ws : List RawWord) (rest : List Byte),
    s.range ≠ 0 → 0 < ws.length → sval (hi ++ lo : BitVec 16) 15 = ws.length →
    s.answers = hi :: lo :: x :: (ws.flatMap wordBytes ++ rest) →
    ∃ t, exec .fdrain s = .next t ∧ Answered .ok [] s t ∧
      (∀ a, t.queue a = (s.queue a).pushAll (samplesFor s a ws)) ∧
      SameConfig s t ∧ SameHost s t ∧ t.csAsserted = false ∧ t.answers = rest ∧
      t.trace = .csDeassert :: (List.replicate (2 * ws.length) (.exchange 0x00) ++
        .exchange Config.cmdFifoRead :: .csAssert ::
        .regRead Config.addrFifoEntriesL :: .regRead Config.addrFifoEntriesH :: s.trace)

/-- R123, R124, R22: whatever the peer answers, FDRAIN writes no HEAD, nothing of the T queue and no configuration
register. -/
def Obligations.FdrainNeverWritesHeadsOrTemperature : Prop :=
  ∀ s t : State, exec .fdrain s = .next t →
    (∀ a, (t.queue a).head = (s.queue a).head) ∧ t.queue .t = s.queue .t ∧ SameConfig s t

/-- R48, R126, R186: if the peer stops answering before FDRAIN has its bytes, `BUSY` stays 1, there is no response,
chip-select is asserted if the hang is in the burst, and no step without a reset pulse changes anything. That no queue has
changed in mid-burst is the model's choice: it routes words after the burst, where R126 allows either (log 5). That the
wait is a state which steps to itself is log 4. -/
def Obligations.FdrainWaitsForMissingAnswers : Prop :=
  ∀ s : State, s.csAsserted = false →
    (s.answers.length < 2 ∨
      ∃ hi lo rest, s.answers = hi :: lo :: rest ∧ 0 < sval (hi ++ lo : BitVec 16) 15 ∧
        (rest.length : Int) < 1 + 2 * sval (hi ++ lo : BitVec 16) 15) →
    ∃ t, exec .fdrain s = .next t ∧ t.busy = true ∧ t.responses = s.responses ∧ SameQueues s t ∧ SameConfig s t ∧
      SameHost s t ∧ t.answers = [] ∧ (t.csAsserted = true ↔ 2 ≤ s.answers.length) ∧
      (s.resetIn = false → step t = .next t)

/-- R47, R48, R126: how the answers are spread over time does not matter: a command run on some answers and continued when
the others come does what it does when all are at hand (log 5); and while it waits, with no reset pulse, it is the next
step of the machine that continues it (log 4). -/
def Obligations.AnswersMayComeInPieces : Prop :=
  ∀ (i : Instr) (s t : State) (xs ys : List Byte),
    exec i (s.setAnswers xs) = .next t →
    exec i (s.setAnswers (xs ++ ys)) = (t.setAnswers (t.answers ++ ys)).resume ∧
    (s.resetIn = false → t.busy = true →
      step (t.setAnswers (t.answers ++ ys)) = exec i (s.setAnswers (xs ++ ys)))

/-- R125: only FDRAIN drives chip-select; every other command leaves it and shows the peer nothing but register
reads. -/
def Obligations.OnlyFdrainDrivesChipSelect : Prop :=
  ∀ (i : Instr) (s t : State), i ≠ .fdrain → exec i s = .next t →
    t.csAsserted = s.csAsserted ∧
    ∃ es, t.trace = es ++ s.trace ∧ ∀ e ∈ es, ∃ addr, e = .regRead addr

/-! Session operations (spec/43_session.md). -/

/-- R136, R45, R84, R27: RDAXIS (format Q, OP 0x11) reads the axis's high and low data registers, in that order, and
answers OK with the word decoded at bit 15, for X, Y and Z scaled and offset by the register that WRCFG of `ZX`, `ZY` or
`ZZ` writes, for T raw; it changes nothing else. -/
def Obligations.RdaxisAnswersTheSample : Prop :=
  ∀ (a : Axis) (s : State) (hi lo : Byte) (rest : List Byte),
    decode (cmdWord 0x11 a.code 0) = .ok (.rdaxis a) ∧
    (s.answers = hi :: lo :: rest →
      (∀ z, OffsetIs s a z → s.range ≠ 0 →
        ∃ t, exec (.rdaxis a) s = .next t ∧
          Answered .ok
            [wrap32 (Int.tdiv (sval (hi ++ lo : BitVec 16) 15 * 1000) (Int.tdiv 2000 s.range.toNat) + z.toInt)] s t ∧
          SameQueues s t ∧ SameConfig s t ∧ SameHost s t ∧ t.csAsserted = s.csAsserted ∧ t.answers = rest ∧
          t.trace = .regRead (Config.addrDataL a) :: .regRead (Config.addrDataH a) :: s.trace) ∧
      (a = .t →
        ∃ t, exec (.rdaxis a) s = .next t ∧ Answered .ok [wrap32 (sval (hi ++ lo : BitVec 16) 15)] s t ∧
          SameQueues s t ∧ SameConfig s t ∧ SameHost s t ∧ t.csAsserted = s.csAsserted ∧ t.answers = rest ∧
          t.trace = .regRead (Config.addrDataL a) :: .regRead (Config.addrDataH a) :: s.trace))

/-- R136, R48: with fewer than two answers RDAXIS waits: `BUSY` 1, no response, and no step without a reset pulse
changes anything. -/
def Obligations.RdaxisWaitsForMissingAnswers : Prop :=
  ∀ (a : Axis) (s : State), s.answers.length < 2 →
    ∃ t, exec (.rdaxis a) s = .next t ∧ t.busy = true ∧ t.responses = s.responses ∧ SameQueues s t ∧
      SameConfig s t ∧ SameHost s t ∧ t.csAsserted = s.csAsserted ∧ t.answers = [] ∧
      (s.resetIn = false → step t = .next t)

/-- R137, R27, R41: WRCFG (format V, OP 0x18) to register 0, 1 or 2 writes `ZERO[X]`, `ZERO[Y]` or `ZERO[Z]` with any
value, answers OK and changes nothing else. The ill-formed term with RANGE is answered REFUSED (log 16). -/
def Obligations.WrcfgWritesAnOffset : Prop :=
  ∀ (v : Sample) (s : State),
    (decode (cmdWord 0x18 0 v) = .ok (.wrcfgZero .zx v) ∧
      ∃ t, exec (.wrcfgZero .zx v) s = .next t ∧ Answered .ok [] s t ∧ SameQueues s t ∧ SameBus s t ∧ SameHost s t ∧
        t.zeroX = v ∧ t.zeroY = s.zeroY ∧ t.zeroZ = s.zeroZ ∧ t.range = s.range) ∧
    (decode (cmdWord 0x18 1 v) = .ok (.wrcfgZero .zy v) ∧
      ∃ t, exec (.wrcfgZero .zy v) s = .next t ∧ Answered .ok [] s t ∧ SameQueues s t ∧ SameBus s t ∧ SameHost s t ∧
        t.zeroX = s.zeroX ∧ t.zeroY = v ∧ t.zeroZ = s.zeroZ ∧ t.range = s.range) ∧
    (decode (cmdWord 0x18 2 v) = .ok (.wrcfgZero .zz v) ∧
      ∃ t, exec (.wrcfgZero .zz v) s = .next t ∧ Answered .ok [] s t ∧ SameQueues s t ∧ SameBus s t ∧ SameHost s t ∧
        t.zeroX = s.zeroX ∧ t.zeroY = s.zeroY ∧ t.zeroZ = v ∧ t.range = s.range) ∧
    (∃ t, exec (.wrcfgZero .range v) s = .next t ∧ Answered .refused [] s t ∧ Unchanged s t)

/-- R138, R41: WRCFG to RANGE (register 3) with 2, 4 or 8, compared on all 32 bits, writes it and answers OK; any other value is answered
REFUSED and RANGE is unchanged. -/
def Obligations.WrcfgWritesOnlyLegalRanges : Prop :=
  ∀ (v : Sample) (s : State),
    decode (cmdWord 0x18 3 v) = .ok (.wrcfgRange v) ∧
    (v.toNat = 2 ∨ v.toNat = 4 ∨ v.toNat = 8 →
      ∃ t, exec (.wrcfgRange v) s = .next t ∧ Answered .ok [] s t ∧ SameQueues s t ∧ SameBus s t ∧ SameHost s t ∧
        t.range.toNat = v.toNat ∧ t.zeroX = s.zeroX ∧ t.zeroY = s.zeroY ∧ t.zeroZ = s.zeroZ) ∧
    (¬ (v.toNat = 2 ∨ v.toNat = 4 ∨ v.toNat = 8) →
      ∃ t, exec (.wrcfgRange v) s = .next t ∧ Answered .refused [] s t ∧ Unchanged s t)

/-- R139, R41: RDCFG (format Q, OP 0x19) of register 0, 1, 2 or 3 answers OK with the offset register, or RANGE zero-extended, and changes nothing. -/
def Obligations.RdcfgAnswersTheRegister : Prop :=
  ∀ s : State,
    decode (cmdWord 0x19 0 0) = .ok (.rdcfg .zx) ∧ decode (cmdWord 0x19 1 0) = .ok (.rdcfg .zy) ∧
    decode (cmdWord 0x19 2 0) = .ok (.rdcfg .zz) ∧ decode (cmdWord 0x19 3 0) = .ok (.rdcfg .range) ∧
    (∃ t, exec (.rdcfg .zx) s = .next t ∧ Answered .ok [s.zeroX] s t ∧ Unchanged s t) ∧
    (∃ t, exec (.rdcfg .zy) s = .next t ∧ Answered .ok [s.zeroY] s t ∧ Unchanged s t) ∧
    (∃ t, exec (.rdcfg .zz) s = .next t ∧ Answered .ok [s.zeroZ] s t ∧ Unchanged s t) ∧
    (∃ t b, exec (.rdcfg .range) s = .next t ∧ Answered .ok [b] s t ∧ Unchanged s t ∧
      b.toNat = s.range.toNat)

/-- R20, R26, R27: no command but WRCFG changes a configuration register. -/
def Obligations.OnlyWrcfgWritesConfiguration : Prop :=
  ∀ (i : Instr) (s t : State), (∀ r v, i ≠ .wrcfgZero r v) → (∀ v, i ≠ .wrcfgRange v) →
    exec i s = .next t → SameConfig s t

/-! The host's computations (spec/44_host_procedures.md), outside the block (log 19). -/

/-- R147: `setRange` of 8, then 2, then 4 leaves bit 7 clear, bit 6 set and bits 5:0 of the filter-control byte as
they were. -/
def Obligations.SetRangeSequenceSelectsFour : Prop :=
  ∀ f : Byte,
    ∃ f8 f2 f4, filterByteFor 8 f = some f8 ∧ filterByteFor 2 f8 = some f2 ∧ filterByteFor 4 f2 = some f4 ∧
      f4.toNat = 64 + f.toNat % 64 ∧ rangeOfFilterByte f4 = 4

/-- R146: the targets are 0, 0 and 1000; with 100 equal readings the new offset is the target minus the reading without
its offset, and the same sample read with the new offset is the target. -/
def Obligations.CalibrationMovesReadingToTarget : Prop :=
  calTarget .x = some 0 ∧ calTarget .y = some 0 ∧ calTarget .z = some 1000 ∧ calTarget .t = none ∧
  ∀ (a : Axis) (target : Int) (p : Bool × Magnitude) (range : Byte) (zeroOld reading : Sample),
    calTarget a = some target → scaleSample p range zeroOld = some reading →
    calibratedZero target zeroOld (List.replicate 100 reading) =
      wrap32 (target - (reading.toInt - zeroOld.toInt)) ∧
    scaleSample p range (calibratedZero target zeroOld (List.replicate 100 reading)) = some (wrap32 target)
end

