-- ==== Sys2Proof/Laws/State.lean ====
section
/-! SUPPORT. What each update of the state does to each field, true by unfolding the update once, so that no later
proof unfolds a record update. -/

namespace Sys2Proof.Machine

variable (s : State)

/-! `respond`. -/

@[simp] theorem State.respond_queueX (st : Status) (beats : List Sample) : (s.respond st beats).queueX = s.queueX := rfl
@[simp] theorem State.respond_queueY (st : Status) (beats : List Sample) : (s.respond st beats).queueY = s.queueY := rfl
@[simp] theorem State.respond_queueZ (st : Status) (beats : List Sample) : (s.respond st beats).queueZ = s.queueZ := rfl
@[simp] theorem State.respond_queueT (st : Status) (beats : List Sample) : (s.respond st beats).queueT = s.queueT := rfl
@[simp] theorem State.respond_zeroX (st : Status) (beats : List Sample) : (s.respond st beats).zeroX = s.zeroX := rfl
@[simp] theorem State.respond_zeroY (st : Status) (beats : List Sample) : (s.respond st beats).zeroY = s.zeroY := rfl
@[simp] theorem State.respond_zeroZ (st : Status) (beats : List Sample) : (s.respond st beats).zeroZ = s.zeroZ := rfl
@[simp] theorem State.respond_range (st : Status) (beats : List Sample) : (s.respond st beats).range = s.range := rfl
@[simp] theorem State.respond_csAsserted (st : Status) (beats : List Sample) : (s.respond st beats).csAsserted = s.csAsserted := rfl
@[simp] theorem State.respond_busy (st : Status) (beats : List Sample) : (s.respond st beats).busy = false := rfl
@[simp] theorem State.respond_phase (st : Status) (beats : List Sample) : (s.respond st beats).phase = .idle := rfl
@[simp] theorem State.respond_resetIn (st : Status) (beats : List Sample) : (s.respond st beats).resetIn = s.resetIn := rfl
@[simp] theorem State.respond_commands (st : Status) (beats : List Sample) : (s.respond st beats).commands = s.commands := rfl
@[simp] theorem State.respond_responses (st : Status) (beats : List Sample) : (s.respond st beats).responses = { status := st, beats := beats } :: s.responses := rfl
@[simp] theorem State.respond_answers (st : Status) (beats : List Sample) : (s.respond st beats).answers = s.answers := rfl
@[simp] theorem State.respond_trace (st : Status) (beats : List Sample) : (s.respond st beats).trace = s.trace := rfl
@[simp] theorem State.respond_queue (st : Status) (beats : List Sample) (a : Axis) : (s.respond st beats).queue a = s.queue a := by
  cases a <;> rfl
@[simp] theorem State.respond_zeroOffset (st : Status) (beats : List Sample) (a : Axis) : (s.respond st beats).zeroOffset a = s.zeroOffset a := by
  cases a <;> rfl
@[simp] theorem State.respond_readCfg (st : Status) (beats : List Sample) (r : CfgReg) : (s.respond st beats).readCfg r = s.readCfg r := by
  cases r <;> rfl

/-! `refuse`. -/

@[simp] theorem State.refuse_queueX : (s.refuse).queueX = s.queueX := rfl
@[simp] theorem State.refuse_queueY : (s.refuse).queueY = s.queueY := rfl
@[simp] theorem State.refuse_queueZ : (s.refuse).queueZ = s.queueZ := rfl
@[simp] theorem State.refuse_queueT : (s.refuse).queueT = s.queueT := rfl
@[simp] theorem State.refuse_zeroX : (s.refuse).zeroX = s.zeroX := rfl
@[simp] theorem State.refuse_zeroY : (s.refuse).zeroY = s.zeroY := rfl
@[simp] theorem State.refuse_zeroZ : (s.refuse).zeroZ = s.zeroZ := rfl
@[simp] theorem State.refuse_range : (s.refuse).range = s.range := rfl
@[simp] theorem State.refuse_csAsserted : (s.refuse).csAsserted = s.csAsserted := rfl
@[simp] theorem State.refuse_busy : (s.refuse).busy = false := rfl
@[simp] theorem State.refuse_phase : (s.refuse).phase = .idle := rfl
@[simp] theorem State.refuse_resetIn : (s.refuse).resetIn = s.resetIn := rfl
@[simp] theorem State.refuse_commands : (s.refuse).commands = s.commands := rfl
@[simp] theorem State.refuse_responses : (s.refuse).responses = { status := .refused, beats := [] } :: s.responses := rfl
@[simp] theorem State.refuse_answers : (s.refuse).answers = s.answers := rfl
@[simp] theorem State.refuse_trace : (s.refuse).trace = s.trace := rfl
@[simp] theorem State.refuse_queue (a : Axis) : (s.refuse).queue a = s.queue a := by
  cases a <;> rfl
@[simp] theorem State.refuse_zeroOffset (a : Axis) : (s.refuse).zeroOffset a = s.zeroOffset a := by
  cases a <;> rfl
@[simp] theorem State.refuse_readCfg (r : CfgReg) : (s.refuse).readCfg r = s.readCfg r := by
  cases r <;> rfl

/-! `accept`. -/

@[simp] theorem State.accept_queueX : (s.accept).queueX = s.queueX := rfl
@[simp] theorem State.accept_queueY : (s.accept).queueY = s.queueY := rfl
@[simp] theorem State.accept_queueZ : (s.accept).queueZ = s.queueZ := rfl
@[simp] theorem State.accept_queueT : (s.accept).queueT = s.queueT := rfl
@[simp] theorem State.accept_zeroX : (s.accept).zeroX = s.zeroX := rfl
@[simp] theorem State.accept_zeroY : (s.accept).zeroY = s.zeroY := rfl
@[simp] theorem State.accept_zeroZ : (s.accept).zeroZ = s.zeroZ := rfl
@[simp] theorem State.accept_range : (s.accept).range = s.range := rfl
@[simp] theorem State.accept_csAsserted : (s.accept).csAsserted = s.csAsserted := rfl
@[simp] theorem State.accept_busy : (s.accept).busy = true := rfl
@[simp] theorem State.accept_phase : (s.accept).phase = s.phase := rfl
@[simp] theorem State.accept_resetIn : (s.accept).resetIn = s.resetIn := rfl
@[simp] theorem State.accept_commands : (s.accept).commands = s.commands.drop 1 := rfl
@[simp] theorem State.accept_responses : (s.accept).responses = s.responses := rfl
@[simp] theorem State.accept_answers : (s.accept).answers = s.answers := rfl
@[simp] theorem State.accept_trace : (s.accept).trace = s.trace := rfl
@[simp] theorem State.accept_queue (a : Axis) : (s.accept).queue a = s.queue a := by
  cases a <;> rfl
@[simp] theorem State.accept_zeroOffset (a : Axis) : (s.accept).zeroOffset a = s.zeroOffset a := by
  cases a <;> rfl
@[simp] theorem State.accept_readCfg (r : CfgReg) : (s.accept).readCfg r = s.readCfg r := by
  cases r <;> rfl

/-! `await`. -/

@[simp] theorem State.await_queueX (p : Phase) : (s.await p).queueX = s.queueX := rfl
@[simp] theorem State.await_queueY (p : Phase) : (s.await p).queueY = s.queueY := rfl
@[simp] theorem State.await_queueZ (p : Phase) : (s.await p).queueZ = s.queueZ := rfl
@[simp] theorem State.await_queueT (p : Phase) : (s.await p).queueT = s.queueT := rfl
@[simp] theorem State.await_zeroX (p : Phase) : (s.await p).zeroX = s.zeroX := rfl
@[simp] theorem State.await_zeroY (p : Phase) : (s.await p).zeroY = s.zeroY := rfl
@[simp] theorem State.await_zeroZ (p : Phase) : (s.await p).zeroZ = s.zeroZ := rfl
@[simp] theorem State.await_range (p : Phase) : (s.await p).range = s.range := rfl
@[simp] theorem State.await_csAsserted (p : Phase) : (s.await p).csAsserted = s.csAsserted := rfl
@[simp] theorem State.await_busy (p : Phase) : (s.await p).busy = true := rfl
@[simp] theorem State.await_phase (p : Phase) : (s.await p).phase = p := rfl
@[simp] theorem State.await_resetIn (p : Phase) : (s.await p).resetIn = s.resetIn := rfl
@[simp] theorem State.await_commands (p : Phase) : (s.await p).commands = s.commands := rfl
@[simp] theorem State.await_responses (p : Phase) : (s.await p).responses = s.responses := rfl
@[simp] theorem State.await_answers (p : Phase) : (s.await p).answers = s.answers := rfl
@[simp] theorem State.await_trace (p : Phase) : (s.await p).trace = s.trace := rfl
@[simp] theorem State.await_queue (p : Phase) (a : Axis) : (s.await p).queue a = s.queue a := by
  cases a <;> rfl
@[simp] theorem State.await_zeroOffset (p : Phase) (a : Axis) : (s.await p).zeroOffset a = s.zeroOffset a := by
  cases a <;> rfl
@[simp] theorem State.await_readCfg (p : Phase) (r : CfgReg) : (s.await p).readCfg r = s.readCfg r := by
  cases r <;> rfl

/-! `emit`. -/

@[simp] theorem State.emit_queueX (e : BusEvent) : (s.emit e).queueX = s.queueX := rfl
@[simp] theorem State.emit_queueY (e : BusEvent) : (s.emit e).queueY = s.queueY := rfl
@[simp] theorem State.emit_queueZ (e : BusEvent) : (s.emit e).queueZ = s.queueZ := rfl
@[simp] theorem State.emit_queueT (e : BusEvent) : (s.emit e).queueT = s.queueT := rfl
@[simp] theorem State.emit_zeroX (e : BusEvent) : (s.emit e).zeroX = s.zeroX := rfl
@[simp] theorem State.emit_zeroY (e : BusEvent) : (s.emit e).zeroY = s.zeroY := rfl
@[simp] theorem State.emit_zeroZ (e : BusEvent) : (s.emit e).zeroZ = s.zeroZ := rfl
@[simp] theorem State.emit_range (e : BusEvent) : (s.emit e).range = s.range := rfl
@[simp] theorem State.emit_csAsserted (e : BusEvent) : (s.emit e).csAsserted = s.csAsserted := rfl
@[simp] theorem State.emit_busy (e : BusEvent) : (s.emit e).busy = s.busy := rfl
@[simp] theorem State.emit_phase (e : BusEvent) : (s.emit e).phase = s.phase := rfl
@[simp] theorem State.emit_resetIn (e : BusEvent) : (s.emit e).resetIn = s.resetIn := rfl
@[simp] theorem State.emit_commands (e : BusEvent) : (s.emit e).commands = s.commands := rfl
@[simp] theorem State.emit_responses (e : BusEvent) : (s.emit e).responses = s.responses := rfl
@[simp] theorem State.emit_answers (e : BusEvent) : (s.emit e).answers = s.answers := rfl
@[simp] theorem State.emit_trace (e : BusEvent) : (s.emit e).trace = e :: s.trace := rfl
@[simp] theorem State.emit_queue (e : BusEvent) (a : Axis) : (s.emit e).queue a = s.queue a := by
  cases a <;> rfl
@[simp] theorem State.emit_zeroOffset (e : BusEvent) (a : Axis) : (s.emit e).zeroOffset a = s.zeroOffset a := by
  cases a <;> rfl
@[simp] theorem State.emit_readCfg (e : BusEvent) (r : CfgReg) : (s.emit e).readCfg r = s.readCfg r := by
  cases r <;> rfl

/-! `askReg`. -/

@[simp] theorem State.askReg_queueX (addr : Byte) (p : Phase) : (s.askReg addr p).queueX = s.queueX := rfl
@[simp] theorem State.askReg_queueY (addr : Byte) (p : Phase) : (s.askReg addr p).queueY = s.queueY := rfl
@[simp] theorem State.askReg_queueZ (addr : Byte) (p : Phase) : (s.askReg addr p).queueZ = s.queueZ := rfl
@[simp] theorem State.askReg_queueT (addr : Byte) (p : Phase) : (s.askReg addr p).queueT = s.queueT := rfl
@[simp] theorem State.askReg_zeroX (addr : Byte) (p : Phase) : (s.askReg addr p).zeroX = s.zeroX := rfl
@[simp] theorem State.askReg_zeroY (addr : Byte) (p : Phase) : (s.askReg addr p).zeroY = s.zeroY := rfl
@[simp] theorem State.askReg_zeroZ (addr : Byte) (p : Phase) : (s.askReg addr p).zeroZ = s.zeroZ := rfl
@[simp] theorem State.askReg_range (addr : Byte) (p : Phase) : (s.askReg addr p).range = s.range := rfl
@[simp] theorem State.askReg_csAsserted (addr : Byte) (p : Phase) : (s.askReg addr p).csAsserted = s.csAsserted := rfl
@[simp] theorem State.askReg_busy (addr : Byte) (p : Phase) : (s.askReg addr p).busy = true := rfl
@[simp] theorem State.askReg_phase (addr : Byte) (p : Phase) : (s.askReg addr p).phase = p := rfl
@[simp] theorem State.askReg_resetIn (addr : Byte) (p : Phase) : (s.askReg addr p).resetIn = s.resetIn := rfl
@[simp] theorem State.askReg_commands (addr : Byte) (p : Phase) : (s.askReg addr p).commands = s.commands := rfl
@[simp] theorem State.askReg_responses (addr : Byte) (p : Phase) : (s.askReg addr p).responses = s.responses := rfl
@[simp] theorem State.askReg_answers (addr : Byte) (p : Phase) : (s.askReg addr p).answers = s.answers := rfl
@[simp] theorem State.askReg_trace (addr : Byte) (p : Phase) : (s.askReg addr p).trace = .regRead addr :: s.trace := rfl
@[simp] theorem State.askReg_queue (addr : Byte) (p : Phase) (a : Axis) : (s.askReg addr p).queue a = s.queue a := by
  cases a <;> rfl
@[simp] theorem State.askReg_zeroOffset (addr : Byte) (p : Phase) (a : Axis) : (s.askReg addr p).zeroOffset a = s.zeroOffset a := by
  cases a <;> rfl
@[simp] theorem State.askReg_readCfg (addr : Byte) (p : Phase) (r : CfgReg) : (s.askReg addr p).readCfg r = s.readCfg r := by
  cases r <;> rfl

/-! `askExchange`. -/

@[simp] theorem State.askExchange_queueX (tx : Byte) (p : Phase) : (s.askExchange tx p).queueX = s.queueX := rfl
@[simp] theorem State.askExchange_queueY (tx : Byte) (p : Phase) : (s.askExchange tx p).queueY = s.queueY := rfl
@[simp] theorem State.askExchange_queueZ (tx : Byte) (p : Phase) : (s.askExchange tx p).queueZ = s.queueZ := rfl
@[simp] theorem State.askExchange_queueT (tx : Byte) (p : Phase) : (s.askExchange tx p).queueT = s.queueT := rfl
@[simp] theorem State.askExchange_zeroX (tx : Byte) (p : Phase) : (s.askExchange tx p).zeroX = s.zeroX := rfl
@[simp] theorem State.askExchange_zeroY (tx : Byte) (p : Phase) : (s.askExchange tx p).zeroY = s.zeroY := rfl
@[simp] theorem State.askExchange_zeroZ (tx : Byte) (p : Phase) : (s.askExchange tx p).zeroZ = s.zeroZ := rfl
@[simp] theorem State.askExchange_range (tx : Byte) (p : Phase) : (s.askExchange tx p).range = s.range := rfl
@[simp] theorem State.askExchange_csAsserted (tx : Byte) (p : Phase) : (s.askExchange tx p).csAsserted = s.csAsserted := rfl
@[simp] theorem State.askExchange_busy (tx : Byte) (p : Phase) : (s.askExchange tx p).busy = true := rfl
@[simp] theorem State.askExchange_phase (tx : Byte) (p : Phase) : (s.askExchange tx p).phase = p := rfl
@[simp] theorem State.askExchange_resetIn (tx : Byte) (p : Phase) : (s.askExchange tx p).resetIn = s.resetIn := rfl
@[simp] theorem State.askExchange_commands (tx : Byte) (p : Phase) : (s.askExchange tx p).commands = s.commands := rfl
@[simp] theorem State.askExchange_responses (tx : Byte) (p : Phase) : (s.askExchange tx p).responses = s.responses := rfl
@[simp] theorem State.askExchange_answers (tx : Byte) (p : Phase) : (s.askExchange tx p).answers = s.answers := rfl
@[simp] theorem State.askExchange_trace (tx : Byte) (p : Phase) : (s.askExchange tx p).trace = .exchange tx :: s.trace := rfl
@[simp] theorem State.askExchange_queue (tx : Byte) (p : Phase) (a : Axis) : (s.askExchange tx p).queue a = s.queue a := by
  cases a <;> rfl
@[simp] theorem State.askExchange_zeroOffset (tx : Byte) (p : Phase) (a : Axis) : (s.askExchange tx p).zeroOffset a = s.zeroOffset a := by
  cases a <;> rfl
@[simp] theorem State.askExchange_readCfg (tx : Byte) (p : Phase) (r : CfgReg) : (s.askExchange tx p).readCfg r = s.readCfg r := by
  cases r <;> rfl

/-! `assertCs`. -/

@[simp] theorem State.assertCs_queueX : (s.assertCs).queueX = s.queueX := rfl
@[simp] theorem State.assertCs_queueY : (s.assertCs).queueY = s.queueY := rfl
@[simp] theorem State.assertCs_queueZ : (s.assertCs).queueZ = s.queueZ := rfl
@[simp] theorem State.assertCs_queueT : (s.assertCs).queueT = s.queueT := rfl
@[simp] theorem State.assertCs_zeroX : (s.assertCs).zeroX = s.zeroX := rfl
@[simp] theorem State.assertCs_zeroY : (s.assertCs).zeroY = s.zeroY := rfl
@[simp] theorem State.assertCs_zeroZ : (s.assertCs).zeroZ = s.zeroZ := rfl
@[simp] theorem State.assertCs_range : (s.assertCs).range = s.range := rfl
@[simp] theorem State.assertCs_csAsserted : (s.assertCs).csAsserted = true := rfl
@[simp] theorem State.assertCs_busy : (s.assertCs).busy = s.busy := rfl
@[simp] theorem State.assertCs_phase : (s.assertCs).phase = s.phase := rfl
@[simp] theorem State.assertCs_resetIn : (s.assertCs).resetIn = s.resetIn := rfl
@[simp] theorem State.assertCs_commands : (s.assertCs).commands = s.commands := rfl
@[simp] theorem State.assertCs_responses : (s.assertCs).responses = s.responses := rfl
@[simp] theorem State.assertCs_answers : (s.assertCs).answers = s.answers := rfl
@[simp] theorem State.assertCs_trace : (s.assertCs).trace = .csAssert :: s.trace := rfl
@[simp] theorem State.assertCs_queue (a : Axis) : (s.assertCs).queue a = s.queue a := by
  cases a <;> rfl
@[simp] theorem State.assertCs_zeroOffset (a : Axis) : (s.assertCs).zeroOffset a = s.zeroOffset a := by
  cases a <;> rfl
@[simp] theorem State.assertCs_readCfg (r : CfgReg) : (s.assertCs).readCfg r = s.readCfg r := by
  cases r <;> rfl

/-! `releaseCs`. -/

@[simp] theorem State.releaseCs_queueX : (s.releaseCs).queueX = s.queueX := rfl
@[simp] theorem State.releaseCs_queueY : (s.releaseCs).queueY = s.queueY := rfl
@[simp] theorem State.releaseCs_queueZ : (s.releaseCs).queueZ = s.queueZ := rfl
@[simp] theorem State.releaseCs_queueT : (s.releaseCs).queueT = s.queueT := rfl
@[simp] theorem State.releaseCs_zeroX : (s.releaseCs).zeroX = s.zeroX := rfl
@[simp] theorem State.releaseCs_zeroY : (s.releaseCs).zeroY = s.zeroY := rfl
@[simp] theorem State.releaseCs_zeroZ : (s.releaseCs).zeroZ = s.zeroZ := rfl
@[simp] theorem State.releaseCs_range : (s.releaseCs).range = s.range := rfl
@[simp] theorem State.releaseCs_csAsserted : (s.releaseCs).csAsserted = false := rfl
@[simp] theorem State.releaseCs_busy : (s.releaseCs).busy = s.busy := rfl
@[simp] theorem State.releaseCs_phase : (s.releaseCs).phase = s.phase := rfl
@[simp] theorem State.releaseCs_resetIn : (s.releaseCs).resetIn = s.resetIn := rfl
@[simp] theorem State.releaseCs_commands : (s.releaseCs).commands = s.commands := rfl
@[simp] theorem State.releaseCs_responses : (s.releaseCs).responses = s.responses := rfl
@[simp] theorem State.releaseCs_answers : (s.releaseCs).answers = s.answers := rfl
@[simp] theorem State.releaseCs_trace : (s.releaseCs).trace = .csDeassert :: s.trace := rfl
@[simp] theorem State.releaseCs_queue (a : Axis) : (s.releaseCs).queue a = s.queue a := by
  cases a <;> rfl
@[simp] theorem State.releaseCs_zeroOffset (a : Axis) : (s.releaseCs).zeroOffset a = s.zeroOffset a := by
  cases a <;> rfl
@[simp] theorem State.releaseCs_readCfg (r : CfgReg) : (s.releaseCs).readCfg r = s.readCfg r := by
  cases r <;> rfl

/-! `setQueue`. -/

@[simp] theorem State.setQueue_zeroX (a : Axis) (q : Queue) : (s.setQueue a q).zeroX = s.zeroX := by
  cases a <;> rfl
@[simp] theorem State.setQueue_zeroY (a : Axis) (q : Queue) : (s.setQueue a q).zeroY = s.zeroY := by
  cases a <;> rfl
@[simp] theorem State.setQueue_zeroZ (a : Axis) (q : Queue) : (s.setQueue a q).zeroZ = s.zeroZ := by
  cases a <;> rfl
@[simp] theorem State.setQueue_range (a : Axis) (q : Queue) : (s.setQueue a q).range = s.range := by
  cases a <;> rfl
@[simp] theorem State.setQueue_csAsserted (a : Axis) (q : Queue) : (s.setQueue a q).csAsserted = s.csAsserted := by
  cases a <;> rfl
@[simp] theorem State.setQueue_busy (a : Axis) (q : Queue) : (s.setQueue a q).busy = s.busy := by
  cases a <;> rfl
@[simp] theorem State.setQueue_phase (a : Axis) (q : Queue) : (s.setQueue a q).phase = s.phase := by
  cases a <;> rfl
@[simp] theorem State.setQueue_resetIn (a : Axis) (q : Queue) : (s.setQueue a q).resetIn = s.resetIn := by
  cases a <;> rfl
@[simp] theorem State.setQueue_commands (a : Axis) (q : Queue) : (s.setQueue a q).commands = s.commands := by
  cases a <;> rfl
@[simp] theorem State.setQueue_responses (a : Axis) (q : Queue) : (s.setQueue a q).responses = s.responses := by
  cases a <;> rfl
@[simp] theorem State.setQueue_answers (a : Axis) (q : Queue) : (s.setQueue a q).answers = s.answers := by
  cases a <;> rfl
@[simp] theorem State.setQueue_trace (a : Axis) (q : Queue) : (s.setQueue a q).trace = s.trace := by
  cases a <;> rfl
@[simp] theorem State.setQueue_zeroOffset (a b : Axis) (q : Queue) :
    (s.setQueue a q).zeroOffset b = s.zeroOffset b := by
  cases a <;> cases b <;> rfl
@[simp] theorem State.setQueue_readCfg (a : Axis) (q : Queue) (r : CfgReg) :
    (s.setQueue a q).readCfg r = s.readCfg r := by
  cases a <;> cases r <;> rfl
@[simp] theorem State.setQueue_queue_same (a : Axis) (q : Queue) : (s.setQueue a q).queue a = q := by
  cases a <;> rfl
theorem State.setQueue_queue_other (a b : Axis) (q : Queue) (h : b ≠ a) :
    (s.setQueue a q).queue b = s.queue b := by
  cases a <;> cases b <;> first | rfl | exact absurd rfl h
/-- Reading a queue after one has been replaced. -/
theorem State.setQueue_queue (a b : Axis) (q : Queue) :
    (s.setQueue a q).queue b = if b = a then q else s.queue b := by
  split
  · next h => rw [h, State.setQueue_queue_same]
  · next h => exact State.setQueue_queue_other s a b q h

/-! `writeCfg`. -/

@[simp] theorem State.writeCfg_queueX (r : CfgReg) (v : Sample) : (s.writeCfg r v).queueX = s.queueX := by
  cases r <;> first | rfl | (simp only [State.writeCfg]; split <;> rfl)
@[simp] theorem State.writeCfg_queueY (r : CfgReg) (v : Sample) : (s.writeCfg r v).queueY = s.queueY := by
  cases r <;> first | rfl | (simp only [State.writeCfg]; split <;> rfl)
@[simp] theorem State.writeCfg_queueZ (r : CfgReg) (v : Sample) : (s.writeCfg r v).queueZ = s.queueZ := by
  cases r <;> first | rfl | (simp only [State.writeCfg]; split <;> rfl)
@[simp] theorem State.writeCfg_queueT (r : CfgReg) (v : Sample) : (s.writeCfg r v).queueT = s.queueT := by
  cases r <;> first | rfl | (simp only [State.writeCfg]; split <;> rfl)
@[simp] theorem State.writeCfg_csAsserted (r : CfgReg) (v : Sample) : (s.writeCfg r v).csAsserted = s.csAsserted := by
  cases r <;> first | rfl | (simp only [State.writeCfg]; split <;> rfl)
@[simp] theorem State.writeCfg_busy (r : CfgReg) (v : Sample) : (s.writeCfg r v).busy = s.busy := by
  cases r <;> first | rfl | (simp only [State.writeCfg]; split <;> rfl)
@[simp] theorem State.writeCfg_phase (r : CfgReg) (v : Sample) : (s.writeCfg r v).phase = s.phase := by
  cases r <;> first | rfl | (simp only [State.writeCfg]; split <;> rfl)
@[simp] theorem State.writeCfg_resetIn (r : CfgReg) (v : Sample) : (s.writeCfg r v).resetIn = s.resetIn := by
  cases r <;> first | rfl | (simp only [State.writeCfg]; split <;> rfl)
@[simp] theorem State.writeCfg_commands (r : CfgReg) (v : Sample) : (s.writeCfg r v).commands = s.commands := by
  cases r <;> first | rfl | (simp only [State.writeCfg]; split <;> rfl)
@[simp] theorem State.writeCfg_responses (r : CfgReg) (v : Sample) : (s.writeCfg r v).responses = s.responses := by
  cases r <;> first | rfl | (simp only [State.writeCfg]; split <;> rfl)
@[simp] theorem State.writeCfg_answers (r : CfgReg) (v : Sample) : (s.writeCfg r v).answers = s.answers := by
  cases r <;> first | rfl | (simp only [State.writeCfg]; split <;> rfl)
@[simp] theorem State.writeCfg_trace (r : CfgReg) (v : Sample) : (s.writeCfg r v).trace = s.trace := by
  cases r <;> first | rfl | (simp only [State.writeCfg]; split <;> rfl)
@[simp] theorem State.writeCfg_queue (r : CfgReg) (v : Sample) (a : Axis) :
    (s.writeCfg r v).queue a = s.queue a := by
  cases a <;> simp [State.queue]

/-! `setAnswers`. -/

@[simp] theorem State.setAnswers_queueX (bs : List Byte) : (s.setAnswers bs).queueX = s.queueX := rfl
@[simp] theorem State.setAnswers_queueY (bs : List Byte) : (s.setAnswers bs).queueY = s.queueY := rfl
@[simp] theorem State.setAnswers_queueZ (bs : List Byte) : (s.setAnswers bs).queueZ = s.queueZ := rfl
@[simp] theorem State.setAnswers_queueT (bs : List Byte) : (s.setAnswers bs).queueT = s.queueT := rfl
@[simp] theorem State.setAnswers_zeroX (bs : List Byte) : (s.setAnswers bs).zeroX = s.zeroX := rfl
@[simp] theorem State.setAnswers_zeroY (bs : List Byte) : (s.setAnswers bs).zeroY = s.zeroY := rfl
@[simp] theorem State.setAnswers_zeroZ (bs : List Byte) : (s.setAnswers bs).zeroZ = s.zeroZ := rfl
@[simp] theorem State.setAnswers_range (bs : List Byte) : (s.setAnswers bs).range = s.range := rfl
@[simp] theorem State.setAnswers_csAsserted (bs : List Byte) : (s.setAnswers bs).csAsserted = s.csAsserted := rfl
@[simp] theorem State.setAnswers_busy (bs : List Byte) : (s.setAnswers bs).busy = s.busy := rfl
@[simp] theorem State.setAnswers_phase (bs : List Byte) : (s.setAnswers bs).phase = s.phase := rfl
@[simp] theorem State.setAnswers_resetIn (bs : List Byte) : (s.setAnswers bs).resetIn = s.resetIn := rfl
@[simp] theorem State.setAnswers_commands (bs : List Byte) : (s.setAnswers bs).commands = s.commands := rfl
@[simp] theorem State.setAnswers_responses (bs : List Byte) : (s.setAnswers bs).responses = s.responses := rfl
@[simp] theorem State.setAnswers_answers (bs : List Byte) : (s.setAnswers bs).answers = bs := rfl
@[simp] theorem State.setAnswers_trace (bs : List Byte) : (s.setAnswers bs).trace = s.trace := rfl
@[simp] theorem State.setAnswers_queue (bs : List Byte) (a : Axis) : (s.setAnswers bs).queue a = s.queue a := by
  cases a <;> rfl
@[simp] theorem State.setAnswers_zeroOffset (bs : List Byte) (a : Axis) : (s.setAnswers bs).zeroOffset a = s.zeroOffset a := by
  cases a <;> rfl
@[simp] theorem State.setAnswers_readCfg (bs : List Byte) (r : CfgReg) : (s.setAnswers bs).readCfg r = s.readCfg r := by
  cases r <;> rfl
@[simp] theorem State.setAnswers_setAnswers (bs cs : List Byte) :
    (s.setAnswers bs).setAnswers cs = s.setAnswers cs := rfl
@[simp] theorem State.setAnswers_self : s.setAnswers s.answers = s := rfl

/-! `applyReset`. -/

@[simp] theorem State.applyReset_queueX : s.applyReset.queueX = State.reset.queueX := rfl
@[simp] theorem State.applyReset_queueY : s.applyReset.queueY = State.reset.queueY := rfl
@[simp] theorem State.applyReset_queueZ : s.applyReset.queueZ = State.reset.queueZ := rfl
@[simp] theorem State.applyReset_queueT : s.applyReset.queueT = State.reset.queueT := rfl
@[simp] theorem State.applyReset_zeroX : s.applyReset.zeroX = State.reset.zeroX := rfl
@[simp] theorem State.applyReset_zeroY : s.applyReset.zeroY = State.reset.zeroY := rfl
@[simp] theorem State.applyReset_zeroZ : s.applyReset.zeroZ = State.reset.zeroZ := rfl
@[simp] theorem State.applyReset_range : s.applyReset.range = State.reset.range := rfl
@[simp] theorem State.applyReset_csAsserted : s.applyReset.csAsserted = State.reset.csAsserted := rfl
@[simp] theorem State.applyReset_busy : s.applyReset.busy = State.reset.busy := rfl
@[simp] theorem State.applyReset_phase : s.applyReset.phase = State.reset.phase := rfl
@[simp] theorem State.applyReset_resetIn : s.applyReset.resetIn = State.reset.resetIn := rfl
@[simp] theorem State.applyReset_commands : s.applyReset.commands = s.commands := rfl
@[simp] theorem State.applyReset_responses : s.applyReset.responses = s.responses := rfl
@[simp] theorem State.applyReset_answers : s.applyReset.answers = s.answers := rfl
@[simp] theorem State.applyReset_queue (a : Axis) : s.applyReset.queue a = Queue.initial := by
  cases a <;> rfl
/-- What the bus peer sees of a reset: chip-select released if it was asserted. -/
theorem State.applyReset_trace :
    s.applyReset.trace = if s.csAsserted then .csDeassert :: s.trace else s.trace := by
  simp only [State.applyReset, State.abandon]
  split <;> rfl

end Sys2Proof.Machine
end

