-- ==== Sys2Proof/Laws/Bus.lean ====
section
/-! SUPPORT. The laws of the bus commands: scaling and routing said once, and how a command goes on with the answers
at hand. -/

namespace Sys2Proof.Machine

/-- Everything `scaleSample` can do (spec/40_codec.md R84). -/
theorem scaleSample_cases (p : Bool × Magnitude) (range : Byte) (zero : Sample) :
    (range = 0 ∧ scaleSample p range zero = none) ∨
    (range ≠ 0 ∧ scaleSample p range zero =
      some (wrap32 (Int.tdiv (pairValue p * 1000) (Int.tdiv 2000 range.toNat) + zero.toInt))) := by
  unfold scaleSample Config.kSpan Config.kMilli
  by_cases h : range = 0
  · exact .inl ⟨h, if_pos h⟩
  · exact .inr ⟨h, if_neg h⟩

/-- Everything `routeWord` can do (spec/42_drainer.md R122, R123). -/
theorem State.routeWord_cases (s : State) (w : RawWord) :
    (s.zeroOffset (axisTag w) = none ∧ s.routeWord w = some s) ∨
    (∃ z, s.zeroOffset (axisTag w) = some z ∧ scaleSample (decFifo w) s.range z = none ∧ s.routeWord w = none) ∨
    (∃ z v, s.zeroOffset (axisTag w) = some z ∧ scaleSample (decFifo w) s.range z = some v ∧
      s.routeWord w = some (s.setQueue (axisTag w) ((s.queue (axisTag w)).pushBack v))) := by
  unfold State.routeWord
  cases hz : s.zeroOffset (axisTag w) with
  | none => exact .inl ⟨rfl, rfl⟩
  | some z =>
    cases hv : scaleSample (decFifo w) s.range z with
    | none => exact .inr (.inl ⟨z, rfl, hv, by simp [hv]⟩)
    | some v => exact .inr (.inr ⟨z, v, rfl, hv, by simp [hv]⟩)

@[simp] theorem State.routeAll_nil (s : State) : s.routeAll [] = some s := rfl

theorem State.routeAll_cons (s : State) (w : RawWord) (ws : List RawWord) :
    s.routeAll (w :: ws) = (s.routeWord w).bind (fun s' => s'.routeAll ws) := by
  show (match s.routeWord w with | none => none | some s' => State.routeAll ws s') = _
  cases s.routeWord w <;> rfl

/-! What a byte does in each phase (spec/42_drainer.md R126). -/

section Deliver
variable (s : State) (b : Byte)

theorem State.deliver_idle (h : s.phase = .idle) : s.deliver b = some s := by
  simp only [State.deliver, h]

theorem State.deliver_countHi (h : s.phase = .countHi) :
    s.deliver b = some (s.askReg Config.addrFifoEntriesL (.countLo b)) := by
  simp only [State.deliver, h]

theorem State.deliver_countLo (hi : Byte) (h : s.phase = .countLo hi) :
    s.deliver b = some (s.gotCount (sval (registerWord hi b) 15)) := by
  simp only [State.deliver, h]; rfl

theorem State.deliver_burstCmd (left : Nat) (h : s.phase = .burstCmd left) :
    s.deliver b = some (s.askExchange 0x00 (.burstLsb left [])) := by
  simp only [State.deliver, h]; rfl

theorem State.deliver_burstLsb (left : Nat) (words : List RawWord) (h : s.phase = .burstLsb left words) :
    s.deliver b = some (s.askExchange 0x00 (.burstMsb left words b)) := by
  simp only [State.deliver, h]; rfl

theorem State.deliver_burstMsb (left : Nat) (words : List RawWord) (lsb : Byte)
    (h : s.phase = .burstMsb left words lsb) : s.deliver b = s.gotWord left (fifoWord lsb b :: words) := by
  simp only [State.deliver, h]

theorem State.deliver_axisHi (a : Axis) (h : s.phase = .axisHi a) :
    s.deliver b = some (s.askReg (Config.addrDataL a) (.axisLo a b)) := by
  simp only [State.deliver, h]

theorem State.deliver_axisLo (a : Axis) (hi : Byte) (h : s.phase = .axisLo a hi) :
    s.deliver b = s.gotAxisWord a (registerWord hi b) := by
  simp only [State.deliver, h]

end Deliver

/-- A count that is not positive ends the command (R121). -/
theorem State.gotCount_done (s : State) (n : Int) (h : n ≤ 0) : s.gotCount n = s.respond .ok [] :=
  if_neg (by omega)

/-- A positive count begins a burst (R121). -/
theorem State.gotCount_burst (s : State) (n : Int) (h : 0 < n) :
    s.gotCount n = s.assertCs.askExchange Config.cmdFifoRead (.burstCmd n.toNat) :=
  if_pos h

/-- More words are to come. -/
theorem State.gotWord_more (s : State) (left : Nat) (ws : List RawWord) (h : 1 < left) :
    s.gotWord left ws = some (s.askExchange 0x00 (.burstLsb (left - 1) ws)) :=
  if_pos h

/-- The last word: chip-select is released, the words are routed and the command responds (R122, R126). -/
theorem State.gotWord_last (s : State) (left : Nat) (ws : List RawWord) (h : left ≤ 1) :
    s.gotWord left ws = (s.releaseCs.routeAll ws.reverse).map (fun t => t.respond .ok []) := by
  unfold State.gotWord
  rw [if_neg (by omega)]
  cases s.releaseCs.routeAll ws.reverse <;> rfl

/-- No answer at hand: the command stays as it is (spec/20_memory.md R48). -/
@[simp] theorem State.feed_nil (s : State) : State.feed [] s = .next s := rfl

/-- The command has ended: the answers left are the peer's to keep. -/
theorem State.feed_idle (bs : List Byte) (s : State) (h : s.phase = .idle) : State.feed bs s = .next s := by
  cases bs with
  | nil => rfl
  | cons b bs => simp [State.feed, h]

/-- One answer taken by a waiting command. -/
theorem State.feed_cons (b : Byte) (bs : List Byte) (s : State) (h : s.phase ≠ .idle) :
    State.feed (b :: bs) s =
      match (s.setAnswers bs).deliver b with
      | none => .refused .rangeZero
      | some s' => State.feed bs s' := if_neg h

end Sys2Proof.Machine
end

