-- ==== Sys2Proof/Laws/PerInstr.lean ====
section
/-! SUPPORT. The family TableRow: the word of a well-formed instruction fits its row of spec/opcode_table.json, that is,
the bits its row's mask selects are those of its row's match. -/

namespace Sys2Proof

/-- The mask of an instruction's row of spec/opcode_table.json. -/
def rowMask : Instr → CmdWord
  | .dec15 _ => 0xFFFFFF0000
  | .dec13 _ => 0xFFFFFF0000
  | .sgn15 _ => 0xFFFFFF0000
  | .sgn13 _ => 0xFFFFFF0000
  | .tag _ => 0xFFFFFF0000
  | .scale _ _ _ => 0xFCFFFFF000
  | .push _ _ => 0xFC00000000
  | .pop _ => 0xFCFFFFFFFF
  | .size _ => 0xFCFFFFFFFF
  | .qdrain _ => 0xFCFFFFFFFF
  | .qreset _ => 0xFCFFFFFFFF
  | .front _ => 0xFCFFFFFFFF
  | .back _ => 0xFCFFFFFFFF
  | .fdrain => 0xFFFFFFFFFF
  | .rdaxis _ => 0xFCFFFFFFFF
  | .wrcfgZero _ _ => 0xFC00000000
  | .wrcfgRange _ => 0xFF00000000
  | .rdcfg _ => 0xFCFFFFFFFF

/-- The match of an instruction's row of spec/opcode_table.json. -/
def rowMatch : Instr → CmdWord
  | .dec15 _ => 0x0400000000
  | .dec13 _ => 0x0800000000
  | .sgn15 _ => 0x0C00000000
  | .sgn13 _ => 0x1000000000
  | .tag _ => 0x1400000000
  | .scale _ _ _ => 0x1800000000
  | .push _ _ => 0x2000000000
  | .pop _ => 0x2400000000
  | .size _ => 0x2800000000
  | .qdrain _ => 0x2C00000000
  | .qreset _ => 0x3000000000
  | .front _ => 0x3400000000
  | .back _ => 0x3800000000
  | .fdrain => 0x4000000000
  | .rdaxis _ => 0x4400000000
  | .wrcfgZero _ _ => 0x6000000000
  | .wrcfgRange _ => 0x6300000000
  | .rdcfg _ => 0x6400000000

/-- A word is fixed by its three fields. -/
theorem cmdWord_fields (c : CmdWord) : cmdWord (opField c) (axField c) (dataField c) = c := by
  apply BitVec.eq_of_getLsbD_eq
  intro i hi
  simp only [cmdWord, opField, axField, dataField, BitVec.getLsbD_append, BitVec.getLsbD_extractLsb']
  interval_cases i <;> simp

@[simp] theorem opField_cmdWord (op : BitVec 6) (ax : BitVec 2) (d : Sample) : opField (cmdWord op ax d) = op := by
  apply BitVec.eq_of_getLsbD_eq
  intro i hi
  simp only [cmdWord, opField, BitVec.getLsbD_append, BitVec.getLsbD_extractLsb']
  interval_cases i <;> simp

@[simp] theorem axField_cmdWord (op : BitVec 6) (ax : BitVec 2) (d : Sample) : axField (cmdWord op ax d) = ax := by
  apply BitVec.eq_of_getLsbD_eq
  intro i hi
  simp only [cmdWord, axField, BitVec.getLsbD_append, BitVec.getLsbD_extractLsb']
  interval_cases i <;> simp

@[simp] theorem dataField_cmdWord (op : BitVec 6) (ax : BitVec 2) (d : Sample) :
    dataField (cmdWord op ax d) = d := by
  apply BitVec.eq_of_getLsbD_eq
  intro i hi
  simp only [cmdWord, dataField, BitVec.getLsbD_append, BitVec.getLsbD_extractLsb']
  interval_cases i <;> simp

@[simp] theorem Axis.ofCode_code (a : Axis) : Axis.ofCode a.code = a := by cases a <;> rfl

@[simp] theorem CfgReg.ofCode_code (r : CfgReg) : CfgReg.ofCode r.code = r := by cases r <;> rfl

/-- The fixed bits of a format W word (R62). -/
theorem formatW_fixed (op : BitVec 6) (w : RawWord) :
    cmdWord op 0 (w.setWidth 32) &&& 0xFFFFFF0000 = cmdWord op 0 0 := by
  apply BitVec.eq_of_getLsbD_eq
  intro i hi
  simp only [cmdWord, BitVec.getLsbD_and, BitVec.getLsbD_append, BitVec.getLsbD_setWidth]
  interval_cases i <;> simp

/-- The fixed bits of a format M word (R62). -/
theorem formatM_fixed (op : BitVec 6) (ax : BitVec 2) (neg : Bool) (m : Magnitude) :
    cmdWord op ax ((BitVec.ofBool neg ++ m).setWidth 32) &&& 0xFCFFFFF000 = cmdWord op 0 0 := by
  apply BitVec.eq_of_getLsbD_eq
  intro i hi
  simp only [cmdWord, BitVec.getLsbD_and, BitVec.getLsbD_append, BitVec.getLsbD_setWidth]
  interval_cases i <;> simp

/-- The fixed bits of a format Q word (R62). -/
theorem formatQ_fixed (op : BitVec 6) (ax : BitVec 2) :
    cmdWord op ax 0 &&& 0xFCFFFFFFFF = cmdWord op 0 0 := by
  apply BitVec.eq_of_getLsbD_eq
  intro i hi
  simp only [cmdWord, BitVec.getLsbD_and, BitVec.getLsbD_append]
  interval_cases i <;> simp

/-- The fixed bits of a format V word (R62). -/
theorem formatV_fixed (op : BitVec 6) (ax : BitVec 2) (v : Sample) :
    cmdWord op ax v &&& 0xFC00000000 = cmdWord op 0 0 := by
  apply BitVec.eq_of_getLsbD_eq
  intro i hi
  simp only [cmdWord, BitVec.getLsbD_and, BitVec.getLsbD_append]
  interval_cases i <;> simp

/-- The fixed bits of a format V word whose register number is fixed too (R64, WRCFG RANGE). -/
theorem formatV_fixed_ax (op : BitVec 6) (v : Sample) :
    cmdWord op 3 v &&& 0xFF00000000 = cmdWord op 3 0 := by
  apply BitVec.eq_of_getLsbD_eq
  intro i hi
  simp only [cmdWord, BitVec.getLsbD_and, BitVec.getLsbD_append]
  interval_cases i <;> simp

end Sys2Proof

namespace Sys2Proof.Laws.TableRow

/-- The word of a well-formed instruction fits its row of the table (spec/30_encoding.md R64). -/
def Statement (i : Instr) : Prop := i.wellFormed = true → encode i &&& rowMask i = rowMatch i

theorem dec15 (w : RawWord) : Statement (.dec15 w) :=
  fun _ => (formatW_fixed _ _).trans rfl

theorem dec13 (w : RawWord) : Statement (.dec13 w) :=
  fun _ => (formatW_fixed _ _).trans rfl

theorem sgn15 (w : RawWord) : Statement (.sgn15 w) :=
  fun _ => (formatW_fixed _ _).trans rfl

theorem sgn13 (w : RawWord) : Statement (.sgn13 w) :=
  fun _ => (formatW_fixed _ _).trans rfl

theorem tag (w : RawWord) : Statement (.tag w) :=
  fun _ => (formatW_fixed _ _).trans rfl

theorem scale (a : Axis) (neg : Bool) (m : Magnitude) : Statement (.scale a neg m) :=
  fun _ => (formatM_fixed _ _ _ _).trans rfl

theorem push (a : Axis) (v : Sample) : Statement (.push a v) :=
  fun _ => (formatV_fixed _ _ _).trans rfl

theorem pop (a : Axis) : Statement (.pop a) :=
  fun _ => (formatQ_fixed _ _).trans rfl

theorem size (a : Axis) : Statement (.size a) :=
  fun _ => (formatQ_fixed _ _).trans rfl

theorem qdrain (a : Axis) : Statement (.qdrain a) :=
  fun _ => (formatQ_fixed _ _).trans rfl

theorem qreset (a : Axis) : Statement (.qreset a) :=
  fun _ => (formatQ_fixed _ _).trans rfl

theorem front (a : Axis) : Statement (.front a) :=
  fun _ => (formatQ_fixed _ _).trans rfl

theorem back (a : Axis) : Statement (.back a) :=
  fun _ => (formatQ_fixed _ _).trans rfl

theorem fdrain : Statement .fdrain := fun _ => by decide

theorem rdaxis (a : Axis) : Statement (.rdaxis a) :=
  fun _ => (formatQ_fixed _ _).trans rfl

theorem wrcfgZero (r : CfgReg) (v : Sample) : Statement (.wrcfgZero r v) :=
  fun _ => (formatV_fixed _ _ _).trans rfl

theorem wrcfgRange (v : Sample) : Statement (.wrcfgRange v) :=
  fun _ => (formatV_fixed_ax _ _).trans rfl

theorem rdcfg (r : CfgReg) : Statement (.rdcfg r) :=
  fun _ => (formatQ_fixed _ _).trans rfl

end Sys2Proof.Laws.TableRow
end

