-- ==== Sys2Proof/Laws/Decode.lean ====
section
/-! SUPPORT. The laws of the decoder: what it does with a word of each operation code (spec/30_encoding.md R64), and what
each format's decoder accepts (R62), so that no later proof unfolds the decoder's chain of comparisons. -/

namespace Sys2Proof

variable (c : CmdWord)

theorem decode_dec15 (h : opField c = 1#6) : decode c = decodeW c .dec15 := by
  simp [decode, h]

theorem decode_dec13 (h : opField c = 2#6) : decode c = decodeW c .dec13 := by
  simp [decode, h]

theorem decode_sgn15 (h : opField c = 3#6) : decode c = decodeW c .sgn15 := by
  simp [decode, h]

theorem decode_sgn13 (h : opField c = 4#6) : decode c = decodeW c .sgn13 := by
  simp [decode, h]

theorem decode_tag (h : opField c = 5#6) : decode c = decodeW c .tag := by
  simp [decode, h]

theorem decode_scale (h : opField c = 6#6) : decode c = decodeM c .scale := by
  simp [decode, h]

theorem decode_push (h : opField c = 8#6) : decode c = decodeV c (fun ax v => .push (Axis.ofCode ax) v) := by
  simp [decode, h]

theorem decode_pop (h : opField c = 9#6) : decode c = decodeQ c (fun ax => .pop (Axis.ofCode ax)) := by
  simp [decode, h]

theorem decode_size (h : opField c = 10#6) : decode c = decodeQ c (fun ax => .size (Axis.ofCode ax)) := by
  simp [decode, h]

theorem decode_qdrain (h : opField c = 11#6) : decode c = decodeQ c (fun ax => .qdrain (Axis.ofCode ax)) := by
  simp [decode, h]

theorem decode_qreset (h : opField c = 12#6) : decode c = decodeQ c (fun ax => .qreset (Axis.ofCode ax)) := by
  simp [decode, h]

theorem decode_front (h : opField c = 13#6) : decode c = decodeQ c (fun ax => .front (Axis.ofCode ax)) := by
  simp [decode, h]

theorem decode_back (h : opField c = 14#6) : decode c = decodeQ c (fun ax => .back (Axis.ofCode ax)) := by
  simp [decode, h]

theorem decode_fdrain (h : opField c = 16#6) : decode c = decodeN c .fdrain := by
  simp [decode, h]

theorem decode_rdaxis (h : opField c = 17#6) : decode c = decodeQ c (fun ax => .rdaxis (Axis.ofCode ax)) := by
  simp [decode, h]

theorem decode_wrcfg (h : opField c = 24#6) : decode c = decodeV c (fun r v => if r = 3 then .wrcfgRange v else .wrcfgZero (CfgReg.ofCode r) v) := by
  simp [decode, h]

theorem decode_rdcfg (h : opField c = 25#6) : decode c = decodeQ c (fun r => .rdcfg (CfgReg.ofCode r)) := by
  simp [decode, h]

/-- A word of an operation code the table does not list is refused (R66 item 1). -/
theorem decode_reserved (h : ∀ k : BitVec 6, opField c = k →
    k ≠ 1 ∧ k ≠ 2 ∧ k ≠ 3 ∧ k ≠ 4 ∧ k ≠ 5 ∧ k ≠ 6 ∧ k ≠ 8 ∧ k ≠ 9 ∧ k ≠ 10 ∧ k ≠ 11 ∧ k ≠ 12 ∧ k ≠ 13 ∧ k ≠ 14 ∧
    k ≠ 16 ∧ k ≠ 17 ∧ k ≠ 24 ∧ k ≠ 25) : decode c = .error .reservedOp := by
  have h := h _ rfl
  simp only [decode]
  simp_all

/-- Every operation code is one of the table's or reserved. -/
theorem opcode_cases (k : BitVec 6) :
    k = 1 ∨ k = 2 ∨ k = 3 ∨ k = 4 ∨ k = 5 ∨ k = 6 ∨ k = 8 ∨ k = 9 ∨ k = 10 ∨ k = 11 ∨ k = 12 ∨ k = 13 ∨ k = 14 ∨
    k = 16 ∨ k = 17 ∨ k = 24 ∨ k = 25 ∨
    (k ≠ 1 ∧ k ≠ 2 ∧ k ≠ 3 ∧ k ≠ 4 ∧ k ≠ 5 ∧ k ≠ 6 ∧ k ≠ 8 ∧ k ≠ 9 ∧ k ≠ 10 ∧ k ≠ 11 ∧ k ≠ 12 ∧ k ≠ 13 ∧ k ≠ 14 ∧
      k ≠ 16 ∧ k ≠ 17 ∧ k ≠ 24 ∧ k ≠ 25) := by
  revert k; decide

/-- What format N accepts. -/
theorem decodeN_ok (i j : Instr) : decodeN c i = .ok j ↔ axField c = 0#2 ∧ dataField c = 0#32 ∧ i = j := by
  unfold decodeN
  split
  · simp_all
  · split <;> simp_all

/-- What format W accepts. -/
theorem decodeW_ok (mk : RawWord → Instr) (j : Instr) :
    decodeW c mk = .ok j ↔ axField c = 0#2 ∧ c.extractLsb' 16 16 = 0#16 ∧ mk (c.extractLsb' 0 16) = j := by
  unfold decodeW
  split
  · simp_all
  · split <;> simp_all

/-- What format M accepts. -/
theorem decodeM_ok (mk : Axis → Bool → Magnitude → Instr) (j : Instr) :
    decodeM c mk = .ok j ↔ axField c ≠ 3#2 ∧ c.extractLsb' 12 20 = 0#20 ∧
      mk (Axis.ofCode (axField c)) (c.getLsbD 11) (c.extractLsb' 0 11) = j := by
  unfold decodeM
  split
  · simp_all
  · split <;> simp_all

/-- What format Q accepts. -/
theorem decodeQ_ok (mk : BitVec 2 → Instr) (j : Instr) :
    decodeQ c mk = .ok j ↔ dataField c = 0#32 ∧ mk (axField c) = j := by
  unfold decodeQ
  split <;> simp_all

/-- What format V accepts. -/
theorem decodeV_ok (mk : BitVec 2 → Sample → Instr) (j : Instr) :
    decodeV c mk = .ok j ↔ mk (axField c) (dataField c) = j := by
  simp [decodeV]

end Sys2Proof
end

