-- ==== Sys2Proof/Laws/Memory.lean ====
section
/-! SUPPORT. The laws of a backing array: what a read gives after each operation, and that every operation keeps the
canonical form. -/

namespace Sys2Proof.Machine

@[simp] theorem Memory.read_nil (i : Nat) : Memory.read [] i = none := rfl

theorem Memory.read_cons (j : Nat) (v : Sample) (rest : Memory) (i : Nat) :
    Memory.read ((j, v) :: rest) i = if i = j then some v else Memory.read rest i := rfl

/-- Everything a write can do: the slot written reads as the value, every other slot as before. -/
theorem Memory.read_write (m : Memory) (i k : Nat) (v : Sample) :
    (m.write i v).read k = if k = i then some v else m.read k := by
  induction m with
  | nil => rfl
  | cons p rest ih =>
    obtain ⟨j, u⟩ := p
    unfold Memory.write
    split
    · rfl
    · split
      · next _ h => subst h; simp only [Memory.read_cons]; split <;> rfl
      · next h => simp only [Memory.read_cons, ih]; split <;> split <;> first | rfl | omega

@[simp] theorem Memory.read_write_same (m : Memory) (i : Nat) (v : Sample) :
    (m.write i v).read i = some v := by simp [Memory.read_write]

theorem Memory.read_write_other (m : Memory) (i k : Nat) (v : Sample) (h : k ≠ i) :
    (m.write i v).read k = m.read k := by simp [Memory.read_write, h]

theorem Memory.wfFrom_cons (lo j : Nat) (v : Sample) (rest : Memory) :
    Memory.wfFrom lo ((j, v) :: rest) = true ↔
      lo ≤ j ∧ j < Config.capacity ∧ Memory.wfFrom (j + 1) rest = true := by
  simp [Memory.wfFrom, and_assoc]

theorem Memory.wfFrom_write (m : Memory) (lo i : Nat) (v : Sample) (hm : Memory.wfFrom lo m = true)
    (hlo : lo ≤ i) (hi : i < Config.capacity) : Memory.wfFrom lo (m.write i v) = true := by
  induction m generalizing lo with
  | nil => simp [Memory.write, Memory.wfFrom, hlo, hi]
  | cons p rest ih =>
    obtain ⟨j, u⟩ := p
    obtain ⟨h1, h2, h3⟩ := (Memory.wfFrom_cons ..).1 hm
    unfold Memory.write
    split
    · next h => exact (Memory.wfFrom_cons ..).2 ⟨hlo, hi, (Memory.wfFrom_cons ..).2 ⟨h, h2, h3⟩⟩
    · split
      · next h => subst h; exact (Memory.wfFrom_cons ..).2 ⟨hlo, hi, h3⟩
      · next h h' => exact (Memory.wfFrom_cons ..).2 ⟨h1, h2, ih _ h3 (by omega)⟩

/-- A write inside the array keeps the canonical form. -/
theorem Memory.wf_write (m : Memory) (i : Nat) (v : Sample) (hm : m.wf = true) (hi : i < Config.capacity) :
    (m.write i v).wf = true :=
  Memory.wfFrom_write m 0 i v hm (Nat.zero_le i) hi

theorem Memory.read_fillFrom (n lo i : Nat) (v : Sample) :
    (Memory.fillFrom n lo v).read i = if lo ≤ i ∧ i < lo + n then some v else none := by
  induction n generalizing lo with
  | zero => simp only [Memory.fillFrom, Memory.read_nil]; split <;> first | rfl | omega
  | succ n ih =>
    simp only [Memory.fillFrom, Memory.read_cons, ih]
    split <;> split <;> first | rfl | omega | (split <;> first | rfl | omega)

/-- Everything a fill does: each of the 512 slots holds the value, and there is no other slot. -/
theorem Memory.read_filled (v : Sample) (i : Nat) :
    (Memory.filled v).read i = if i < 512 then some v else none := by
  simp [Memory.filled, Memory.read_fillFrom, Config.capacity]

theorem Memory.wfFrom_fillFrom (n lo : Nat) (v : Sample) (h : lo + n ≤ Config.capacity) :
    Memory.wfFrom lo (Memory.fillFrom n lo v) = true := by
  induction n generalizing lo with
  | zero => rfl
  | succ n ih => exact (Memory.wfFrom_cons ..).2 ⟨Nat.le_refl lo, by omega, ih (lo + 1) (by omega)⟩

/-- A fill has the canonical form. -/
theorem Memory.wf_filled (v : Sample) : (Memory.filled v).wf = true :=
  Memory.wfFrom_fillFrom Config.capacity 0 v (by decide)

/-- The empty array, which every queue has at reset, has the canonical form. -/
@[simp] theorem Memory.wf_nil : Memory.wf [] = true := rfl

theorem Memory.read_of_wfFrom (m : Memory) (lo i : Nat) (hm : Memory.wfFrom lo m = true)
    (hi : i < lo ∨ Config.capacity ≤ i) : m.read i = none := by
  induction m generalizing lo with
  | nil => rfl
  | cons p rest ih =>
    obtain ⟨j, u⟩ := p
    obtain ⟨h1, h2, h3⟩ := (Memory.wfFrom_cons ..).1 hm
    rw [Memory.read_cons, if_neg (by omega)]
    exact ih (j + 1) h3 (by omega)

end Sys2Proof.Machine
end

