-- ==== Sys2Proof/Laws/Queues.lean ====
section
/-! SUPPORT. The laws of one queue: what each operation of spec/41_queue.md section 2 does, said once, and that each
keeps a sound queue sound (spec/10_state.md R30, R31). -/

namespace Sys2Proof.Machine

theorem Index.lt_capacity (i : Index) : i.toNat < Config.capacity := i.isLt

theorem Config.saturationBound_toNat : Config.saturationBound.toNat = 511 := rfl

/-- TAIL after `pushBack`, as a number (R101). -/
theorem Queue.pushBack_tail_toNat (q : Queue) (v : Sample) :
    (q.pushBack v).tail.toNat = if q.tail.toNat < 511 then q.tail.toNat + 1 else q.tail.toNat := by
  have h := q.tail.isLt
  simp only [Queue.pushBack, BitVec.lt_def, Config.saturationBound_toNat]
  split
  · rw [BitVec.toNat_add]; simp; omega
  · rfl

@[simp] theorem Queue.pushBack_head (q : Queue) (v : Sample) : (q.pushBack v).head = q.head := rfl

/-- Every slot after `pushBack` (R101). -/
theorem Queue.pushBack_read (q : Queue) (v : Sample) (i : Nat) :
    (q.pushBack v).mem.read i = if i = q.tail.toNat then some v else q.mem.read i :=
  Memory.read_write q.mem q.tail.toNat i v

theorem Queue.pushBack_sound (q : Queue) (v : Sample) (h : q.Sound) : (q.pushBack v).Sound := by
  obtain ⟨h1, h2, h3⟩ := h
  refine ⟨?_, Memory.wf_write _ _ _ h2 (Index.lt_capacity _), fun i hi => ?_⟩
  · rw [BitVec.le_def] at h1 ⊢
    rw [Queue.pushBack_tail_toNat, Queue.pushBack_head]
    split <;> omega
  · rw [Queue.pushBack_read]
    rw [Queue.pushBack_tail_toNat] at hi
    split
    · rfl
    · refine h3 i ?_
      split at hi <;> omega

/-- Everything `popFront` can do (R103). -/
theorem Queue.popFront_cases (q : Queue) :
    (q.head < q.tail ∧ q.mem.read q.head.toNat = none ∧ q.popFront = none) ∨
    (∃ v, q.head < q.tail ∧ q.mem.read q.head.toNat = some v ∧
      q.popFront = some (.ok, v, { q with head := q.head + 1 })) ∨
    (¬ q.head < q.tail ∧ q.popFront = some (.empty, 0, { q with head := 0, tail := 0 })) := by
  unfold Queue.popFront popStatus
  by_cases h : q.head < q.tail
  · cases hr : q.mem.read q.head.toNat with
    | none => exact .inl ⟨h, rfl, by simp [h]⟩
    | some v => exact .inr (.inl ⟨v, h, rfl, by simp [h]⟩)
  · exact .inr (.inr ⟨h, by simp [h, Config.emptyDefault]⟩)

/-- HEAD after a pop that returns a sample: no wrap, since it was below TAIL (R30). -/
theorem Index.succ_toNat (i j : Index) (h : i < j) : (i + 1).toNat = i.toNat + 1 := by
  have hj := j.isLt
  rw [BitVec.lt_def] at h
  rw [BitVec.toNat_add]
  simp
  omega

theorem Queue.popFront_sound (q q' : Queue) (st : Status) (v : Sample) (h : q.Sound)
    (hp : q.popFront = some (st, v, q')) : q'.Sound := by
  obtain ⟨h1, h2, h3⟩ := h
  rcases q.popFront_cases with ⟨_, _, hc⟩ | ⟨w, hlt, _, hc⟩ | ⟨_, hc⟩
  · rw [hc] at hp; cases hp
  · rw [hc] at hp; cases hp
    refine ⟨?_, h2, h3⟩
    rw [BitVec.le_def, Index.succ_toNat _ _ hlt]
    rw [BitVec.lt_def] at hlt
    exact hlt
  · rw [hc] at hp; cases hp
    exact ⟨BitVec.le_def.2 (Nat.le_refl _), h2, fun i hi => absurd hi (by simp)⟩

/-- A sound queue can be popped (R31). -/
theorem Queue.popFront_isSome (q : Queue) (h : q.Sound) : ∃ st v q', q.popFront = some (st, v, q') := by
  rcases q.popFront_cases with ⟨hlt, hr, _⟩ | ⟨w, _, _, hc⟩ | ⟨_, hc⟩
  · have := h.2.2 q.head.toNat (BitVec.lt_def.1 hlt)
    rw [hr] at this; cases this
  · exact ⟨_, _, _, hc⟩
  · exact ⟨_, _, _, hc⟩

theorem Queue.popMany_isSome (n : Nat) (q : Queue) (h : q.Sound) : ∃ vs q', q.popMany n = some (vs, q') := by
  induction n generalizing q with
  | zero => exact ⟨[], q, rfl⟩
  | succ n ih =>
    obtain ⟨st, v, q', hp⟩ := q.popFront_isSome h
    obtain ⟨vs, q'', hm⟩ := ih q' (Queue.popFront_sound q q' st v h hp)
    exact ⟨v :: vs, q'', by simp [Queue.popMany, hp, hm]⟩

theorem Queue.clear_sound : Queue.clear.Sound :=
  ⟨BitVec.le_def.2 (Nat.le_refl _), Memory.wf_filled _, fun i hi => absurd hi (by simp [Queue.clear])⟩

theorem Queue.initial_sound : Queue.initial.Sound :=
  ⟨BitVec.le_def.2 (Nat.le_refl _), Memory.wf_nil, fun i hi => absurd hi (by simp [Queue.initial])⟩

/-- Every slot after `reset(a)` (R106). -/
theorem Queue.clear_read (i : Nat) : Queue.clear.mem.read i = if i < 512 then some Config.fill else none :=
  Memory.read_filled Config.fill i

end Sys2Proof.Machine
end

