-- ==== Sys2Proof/Tests/Slice0.lean ====
section
/-! SUPPORT. Tests of the model on the words and vectors of spec/95_test_vectors.md, and one witness for the hypotheses of
every statement that has some. -/

open Sys2Proof Sys2Proof.Machine

namespace Sys2Proof.Tests

/-! Small states. -/

/-- The reset state with queue `a` holding the slots `vs` from 0 on, and these indices. -/
def withQueue (a : Axis) (head tail : Index) (vs : List Sample) : State :=
  State.reset.setQueue a { mem := vs.zipIdx.map fun p => (p.2, p.1), head := head, tail := tail }

/-- The reset state with the peer holding `bs`. -/
def withBus (bs : List Byte) : State := State.reset.setAnswers bs

/-- The reset state with `c` on the command port. -/
def withWord (c : CmdWord) : State := { State.reset with commands := [c] }

/-- A next state of which `p` holds. -/
def nextWith (o : Host.Outcome State Fault Refusal) (p : State → Bool) : Bool :=
  match o with
  | .next t => p t
  | .fault _ => false
  | .refused _ => false

/-- A next state whose newest response is this one. -/
def answers (o : Host.Outcome State Fault Refusal) (st : Status) (beats : List Sample) : Bool :=
  nextWith o fun t => decide (t.responses.head? = some { status := st, beats := beats })

/-! Ill-formed terms (R66 item 4, R137). -/

theorem test_wellFormed_scale_t : (Instr.scale .t true 50).wellFormed = false := by decide
theorem test_wellFormed_wrcfg_range : (Instr.wrcfgZero .range 2).wellFormed = false := by decide

/-! Decoding: words put together from the fields of R61 and the tables of R62 and R64, and the words of R69 and of
spec/95_test_vectors.md as they stand there. -/

theorem test_decode_dec15_bits :
    decode (0b000001#6 ++ 0b00#2 ++ 0b0000000000000000#16 ++ 0b1111111111111011#16) = .ok (.dec15 0xFFFB) := by rfl
theorem test_decode_scale_bits :
    decode (0b000110#6 ++ 0b01#2 ++ 0b00000000000000000000#20 ++ 0b1#1 ++ 0b00000110010#11) =
      .ok (.scale .y true 50) := by rfl
theorem test_decode_push_bits :
    decode (0b001000#6 ++ 0b00#2 ++ 0b11111111111111111111111111111011#32) = .ok (.push .x (-5)) := by rfl
theorem test_decode_pop_bits :
    decode (0b001001#6 ++ 0b10#2 ++ 0b00000000000000000000000000000000#32) = .ok (.pop .z) := by rfl
theorem test_decode_fdrain_bits :
    decode (0b010000#6 ++ 0b00#2 ++ 0b00000000000000000000000000000000#32) = .ok .fdrain := by rfl
theorem test_decode_wrcfg_bits :
    decode (0b011000#6 ++ 0b11#2 ++ 0b00000000000000000000000000000100#32) = .ok (.wrcfgRange 4) := by rfl

theorem test_decode_dec15 : decode 0x040000FFFB = .ok (.dec15 0xFFFB) := by rfl
theorem test_decode_dec13 : decode 0x0800007FCE = .ok (.dec13 0x7FCE) := by rfl
theorem test_decode_sgn15 : decode 0x0C0000FFCE = .ok (.sgn15 0xFFCE) := by rfl
theorem test_decode_sgn13 : decode 0x100000BFFF = .ok (.sgn13 0xBFFF) := by rfl
theorem test_decode_tag : decode 0x1400008032 = .ok (.tag 0x8032) := by rfl
theorem test_decode_scale : decode 0x1A00000FFF = .ok (.scale .z true 2047) := by rfl
theorem test_decode_push : decode 0x20FFFFFFFB = .ok (.push .x (-5)) := by rfl
theorem test_decode_pop : decode 0x2600000000 = .ok (.pop .z) := by rfl
theorem test_decode_size : decode 0x2A00000000 = .ok (.size .z) := by rfl
theorem test_decode_qdrain : decode 0x2D00000000 = .ok (.qdrain .y) := by rfl
theorem test_decode_qreset : decode 0x3000000000 = .ok (.qreset .x) := by rfl
theorem test_decode_front : decode 0x3400000000 = .ok (.front .x) := by rfl
theorem test_decode_back : decode 0x3900000000 = .ok (.back .y) := by rfl
theorem test_decode_fdrain : decode 0x4000000000 = .ok .fdrain := by rfl
theorem test_decode_rdaxis : decode 0x4700000000 = .ok (.rdaxis .t) := by rfl
theorem test_decode_wrcfg_zy : decode 0x61FFFFFFF4 = .ok (.wrcfgZero .zy (-12)) := by rfl
theorem test_decode_wrcfg_range : decode 0x6300000102 = .ok (.wrcfgRange 258) := by rfl
theorem test_decode_rdcfg : decode 0x6700000000 = .ok (.rdcfg .range) := by rfl

/-! The refused words of spec/95_test_vectors.md sections 2.3, 2.5 and 2.6. -/

theorem test_refuse_op0 : decode 0x0000000000 = .error .reservedOp := by rfl
theorem test_refuse_op7 : decode 0x1C00000000 = .error .reservedOp := by rfl
theorem test_refuse_dec15_data : decode 0x0400010000 = .error .reservedBits := by rfl
theorem test_refuse_dec15_ax : decode 0x0500000000 = .error .axisNotZero := by rfl
theorem test_refuse_pop_data : decode 0x2400000001 = .error .reservedBits := by rfl
theorem test_refuse_scale_data : decode 0x1800001000 = .error .reservedBits := by rfl
theorem test_refuse_scale_t : decode 0x1B00000832 = .error .noOffsetForT := by rfl
theorem test_refuse_fdrain_ax : decode 0x4100000000 = .error .axisNotZero := by rfl
theorem test_refuse_fdrain_data : decode 0x4000000001 = .error .reservedBits := by rfl

/-! Fetching: the word on the port right after reset is the next command (R60). -/

theorem test_step_after_reset :
    answers (step (State.reset.withFetchWord 40 0x0C0000FFCE)) .ok [0xFFFFFFCE] = true := by decide
theorem test_step_refused_word :
    answers (step (State.reset.withFetchWord 40 0x1B00000832)) .refused [] = true := by decide

/-! WireCodec: spec/95_test_vectors.md sections 2.1, 2.2, 2.3 and 2.7. -/

theorem test_dec15_negative : answers (exec (.dec15 0xFC01) State.reset) .ok [0x00000BFF] = true := by decide
theorem test_dec15_negative_zero : answers (exec (.dec15 0xF800) State.reset) .ok [0x00000800] = true := by decide
theorem test_dec13_tagged : answers (exec (.dec13 0x7FCE) State.reset) .ok [0x00000832] = true := by decide
theorem test_dec13_bit13_clear : answers (exec (.dec13 0x1FFF) State.reset) .ok [0x000007FF] = true := by decide
theorem test_sgn15_not_extended : answers (exec (.sgn15 0x8001) State.reset) .ok [0xFFFFF801] = true := by decide
theorem test_sgn15_bit11 : answers (exec (.sgn15 0x0805) State.reset) .ok [5] = true := by decide
theorem test_sgn13_tagged : answers (exec (.sgn13 0xBFFF) State.reset) .ok [0xFFFFFFFF] = true := by decide
theorem test_sgn13_bottom : answers (exec (.sgn13 0x3C00) State.reset) .ok [0xFFFFFC00] = true := by decide
theorem test_tag_z : answers (exec (.tag 0x8032) State.reset) .ok [2] = true := by decide
theorem test_tag_y_top : answers (exec (.tag 0x7FFF) State.reset) .ok [1] = true := by decide
theorem test_scale_offset :
    answers (exec (.scale .y true 50) { State.reset with range := 4, zeroY := -12 }) .ok [0xFFFFFF90] = true := by
  decide
theorem test_scale_wraps :
    answers (exec (.scale .x true 1) { State.reset with zeroX := 0x80000000 }) .ok [0x7FFFFFFF] = true := by decide
theorem test_scaleSample_toward_zero : scaleSample (true, 50) 3 0 = some (-75) := by decide
theorem test_scaleSample_largest : scaleSample (false, 2047) 255 0 = some 292428 := by decide
theorem test_dec11_other_reading : dec11With .minusOne 0xFFFB 15 = (true, 3) := by decide

/-! AxisQueue: spec/95_test_vectors.md sections 2.4 and 3.1. -/

theorem test_push_below_bound :
    nextWith (exec (.push .x 7) (withQueue .x 0 510 [])) (fun t =>
      decide (t.queueX.tail = 511 ∧ t.queueX.mem = [(510, 7)] ∧ t.responses = [⟨.ok, []⟩])) = true := by decide
theorem test_push_saturates :
    nextWith (exec (.push .x 9) { State.reset with queueX := ⟨[(511, 8)], 0, 511⟩ }) (fun t =>
      decide (t.queueX.tail = 511 ∧ t.queueX.mem = [(511, 9)] ∧ t.responses = [⟨.sat, []⟩])) = true := by decide
theorem test_pop_stored_zero :
    nextWith (exec (.pop .x) (withQueue .x 0 1 [0])) (fun t =>
      decide (t.queueX.head = 1 ∧ t.queueX.tail = 1 ∧ t.responses = [⟨.ok, [0]⟩])) = true := by decide
theorem test_pop_empty_resets_indices :
    nextWith (exec (.pop .x) (withQueue .x 1 1 [5])) (fun t =>
      decide (t.queueX.head = 0 ∧ t.queueX.tail = 0 ∧ t.responses = [⟨.empty, [0]⟩])) = true := by decide
theorem test_size_is_tail : answers (exec (.size .x) (withQueue .x 1 1 [5])) .ok [1] = true := by decide
theorem test_size_full : answers (exec (.size .z) (withQueue .z 0 511 [])) .ok [0x1FF] = true := by decide
theorem test_qdrain_after_pop :
    answers (exec (.qdrain .x) (withQueue .x 1 4 [10, -20, 30, 40])) .ok [-20, 30, 40, 0] = true := by decide
theorem test_qdrain_empty :
    nextWith (exec (.qdrain .x) State.reset) (fun t =>
      decide (t.queueX.tail = 0 ∧ t.queueX.mem.read 0 = some (-999999) ∧ t.responses = [⟨.ok, []⟩])) = true := by
  decide
theorem test_qreset_fill :
    nextWith (exec (.qreset .y) (withQueue .y 1 3 [1, 2, 3])) (fun t =>
      decide (t.queueY.head = 0 ∧ t.queueY.tail = 0 ∧ t.queueY.mem.read 1 = some 0xFFF0BDC1 ∧
        t.responses = [⟨.ok, []⟩])) = true := by decide
theorem test_qreset_slot_511 : Queue.clear.mem.read 511 = some 0xFFF0BDC1 := by decide +kernel
theorem test_front_refused : answers (exec (.front .x) (withQueue .x 0 1 [5])) .refused [] = true := by decide
theorem test_back_refused : answers (exec (.back .y) (withQueue .y 0 1 [5])) .refused [] = true := by decide

/-! FifoDrainer: spec/95_test_vectors.md sections 1.1 and 2.5. The byte 0xEE answers the command byte. -/

theorem test_fdrain_routes :
    nextWith (exec .fdrain (withBus [0x00, 0x03, 0xEE, 0x32, 0x00, 0x64, 0x40, 0x32, 0x80])) (fun t =>
      decide (t.queueX = ⟨[(0, 50)], 0, 1⟩ ∧ t.queueY = ⟨[(0, 100)], 0, 1⟩ ∧ t.queueZ = ⟨[(0, 50)], 0, 1⟩ ∧
        t.queueT = Queue.initial ∧ t.responses = [⟨.ok, []⟩])) = true := by decide
theorem test_fdrain_signed_count :
    nextWith (exec .fdrain (withBus [0x80, 0x05, 0xEE])) (fun t =>
      decide (t.answers = [0xEE] ∧ t.csAsserted = false ∧ t.queueX.tail = 0 ∧ t.responses = [⟨.ok, []⟩])) = true := by
  decide

/-! Session operations: spec/95_test_vectors.md section 2.6. -/

theorem test_rdaxis_z :
    answers (exec (.rdaxis .z) { withBus [0xFF, 0xCE] with range := 8, zeroZ := 24 }) .ok [0xFFFFFF50] = true := by
  decide
theorem test_rdaxis_t : answers (exec (.rdaxis .t) (withBus [0xFF, 0xFB])) .ok [0xFFFFFFFB] = true := by decide
theorem test_wrcfg_zy :
    nextWith (exec (.wrcfgZero .zy (-12)) State.reset) (fun t =>
      decide (t.zeroY = -12 ∧ t.zeroX = 0 ∧ t.responses = [⟨.ok, []⟩])) = true := by decide
theorem test_wrcfg_range_4 :
    nextWith (exec (.wrcfgRange 4) State.reset) (fun t =>
      decide (t.range = 4 ∧ t.responses = [⟨.ok, []⟩])) = true := by decide
theorem test_wrcfg_range_258 :
    nextWith (exec (.wrcfgRange 258) State.reset) (fun t =>
      decide (t.range = 2 ∧ t.responses = [⟨.refused, []⟩])) = true := by decide
theorem test_rdcfg_range : answers (exec (.rdcfg .range) State.reset) .ok [2] = true := by decide
theorem test_rdcfg_zx : answers (exec (.rdcfg .zx) State.reset) .ok [0] = true := by decide

/-! The host's `setRange` of 8, 2 and 4 from 0xFF: spec/95_test_vectors.md section 1.6. -/

theorem test_setRange_bytes :
    filterByteFor 8 0xFF = some 0xFF ∧ filterByteFor 2 0xFF = some 0x3F ∧ filterByteFor 4 0x3F = some 0x7F := by
  decide

/-! Witnesses: for each statement with hypotheses, a state and operands that meet them all, clause by clause. -/

theorem witness_DecodeEncodeRoundTrip : (Instr.scale .z true 2047).wellFormed = true := by decide

theorem witness_DecodedWordIsItsEncoding : decode 0x1A00000FFF = .ok (.scale .z true 2047) := by rfl

theorem witness_WordsNotListedDecode : ¬ RefusedWord 0x1A00000FFF := by unfold RefusedWord; decide

/-- Words for each item of R66, at the edges of its ranges. -/
theorem witness_RefusedWord :
    ∀ c ∈ ([0x0000000000, 0x1C00000000, 0x3C00000000, 0x4800000000, 0x5C00000000, 0x6800000000, 0xFC00000000,
      0x0500000000, 0x1700000000, 0x4100000000, 0x0400010000, 0x1800001000, 0x2400000001, 0x6480000000,
      0x1B00000832, 0x3400000000, 0x3B00000000] : List CmdWord), RefusedWord c := by simp [RefusedWord]

theorem witness_RefusedWordsOnlyAnswer :
    (withWord 0x0400010000).resetIn = false ∧ (withWord 0x0400010000).busy = false ∧
    (withWord 0x0400010000).commands = 0x0400010000 :: [] ∧ RefusedWord 0x0400010000 := by
  unfold RefusedWord; decide

theorem witness_DecodedBeatIsScaleOperand : Axis.z ≠ Axis.t := by decide

theorem witness_StepRunsDecodedInstruction :
    (withWord 0x4000000000).resetIn = false ∧ (withWord 0x4000000000).busy = false ∧
    (withWord 0x4000000000).commands = 0x4000000000 :: [] ∧ decode 0x4000000000 = .ok .fdrain := by
  exact ⟨rfl, rfl, rfl, rfl⟩

/-- RDAXIS T waits for its low byte, which has come; a word waits on the port. -/
def waiting : State := { withWord 0x2800000000 with busy := true, phase := .axisLo .t 0xFF, answers := [0xFB] }

theorem witness_BusyBlockTakesNoCommand :
    waiting.resetIn = false ∧ waiting.busy = true ∧ ∃ t, step waiting = .next t := ⟨rfl, rfl, _, rfl⟩

theorem witness_IdlePortHoldsState :
    State.reset.resetIn = false ∧ State.reset.busy = false ∧ State.reset.commands = [] := by decide

theorem witness_ResetInputResets :
    ({ State.reset with resetIn := true, busy := true, csAsserted := true, phase := .burstCmd 1 } : State).resetIn =
      true := by rfl

/-- In the longest burst, before its last byte. -/
def lastByte : State :=
  { withBus [0x00] with
    busy := true, csAsserted := true, phase := .burstMsb 1 (List.replicate 2046 0xC000) 0xFF }

theorem witness_StepKeepsInvariant :
    (withWord 0x20FFFFFFFB).Inv ∧ ∃ t, step (withWord 0x20FFFFFFFB) = .next t :=
  ⟨by decide, _, rfl⟩

theorem witness_SoundStatesNeverStop : waiting.Inv ∧ lastByte.Inv := by decide +kernel

theorem witness_OneResponsePerCommand :
    (∃ t, exec (.size .x) State.reset = .next t) ∧ ∃ t, exec .fdrain State.reset = .next t :=
  ⟨⟨_, rfl⟩, _, rfl⟩

theorem witness_StatusBelongsToItsCommand :
    (∃ t, exec (.push .x 9) (withQueue .x 0 511 []) = .next t ∧
      t.responses = ⟨.sat, []⟩ :: (withQueue .x 0 511 []).responses) ∧
    (∃ t, exec (.pop .x) State.reset = .next t ∧ t.responses = ⟨.empty, [0]⟩ :: State.reset.responses) ∧
    (∃ t, exec (.front .x) State.reset = .next t ∧ t.responses = ⟨.refused, []⟩ :: State.reset.responses) :=
  ⟨⟨_, rfl, by decide⟩, ⟨_, rfl, by decide⟩, _, rfl, by decide⟩

theorem witness_SignedDecodeRoundTrip :
    (-2047 : Int) ≤ -2047 ∧ (-2047 : Int) ≤ 2047 ∧ (-2047 : Int) ≤ 2047 ∧ (2047 : Int) ≤ 2047 := by decide

theorem witness_IgnoredBitsDoNotMatter :
    ((0x0005 : RawWord).setWidth 11 = (0x7805 : RawWord).setWidth 11 ∧
      (0x0005 : RawWord).getLsbD 15 = (0x7805 : RawWord).getLsbD 15) ∧
    ((0x0005 : RawWord).setWidth 11 = (0xD805 : RawWord).setWidth 11 ∧
      (0x0005 : RawWord).getLsbD 13 = (0xD805 : RawWord).getLsbD 13) := by decide

/-- A state with three different offsets, so that no two axes could be mixed up. -/
def offsets (bs : List Byte) : State := { withBus bs with zeroX := 5, zeroY := -12, zeroZ := 1000 }

theorem witness_ScaleCommandAnswers :
    Axis.z ≠ .t ∧ OffsetIs (offsets []) .x 5 ∧ OffsetIs (offsets []) .y (-12) ∧ OffsetIs (offsets []) .z 1000 ∧
    (offsets []).range ≠ 0 := by unfold OffsetIs; decide

theorem witness_ScalingByRangeZeroStops :
    ({ withBus [0xFF, 0xCE] with range := 0 } : State).range = 0 ∧ Axis.x ≠ .t ∧ Axis.z ≠ .t ∧
    ({ withBus [0xFF, 0xCE] with range := 0 } : State).answers = 0xFF :: 0xCE :: [] := by decide

/-- A burst of a T word and a Y word. -/
theorem witness_ScalingByRangeZeroStops_burst :
    ({ withBus [0, 2, 0xEE, 0x23, 0xC1, 0x64, 0x40] with range := 0 } : State).range = 0 ∧
    (∃ w ∈ [(0xC123 : RawWord), 0x4064], axisTag w ≠ .t) ∧
    sval (0x00#8 ++ 0x02#8 : BitVec 16) 15 = [(0xC123 : RawWord), 0x4064].length ∧
    ({ withBus [0, 2, 0xEE, 0x23, 0xC1, 0x64, 0x40] with range := 0 } : State).answers =
      0 :: 2 :: 0xEE :: ([(0xC123 : RawWord), 0x4064].flatMap wordBytes ++ []) :=
  ⟨rfl, ⟨0x4064, by simp, by decide⟩, by decide, by decide⟩

theorem witness_PushStoresAtTail :
    ((withQueue .t 0 0 []).queue .t).tail.toNat < 511 ∧ ((withQueue .t 0 510 []).queue .t).tail.toNat < 511 ∧
    ((withQueue .t 0 511 []).queue .t).tail.toNat = 511 := by decide

theorem witness_PopReadsAtHead :
    (((withQueue .y 0 1 [5]).queue .y).head.toNat < ((withQueue .y 0 1 [5]).queue .y).tail.toNat ∧
      ((withQueue .y 0 1 [5]).queue .y).mem.read ((withQueue .y 0 1 [5]).queue .y).head.toNat = some 5) ∧
    ((withQueue .y 1 1 [5]).queue .y).tail.toNat ≤ ((withQueue .y 1 1 [5]).queue .y).head.toNat := by decide

theorem witness_PopOfUnwrittenSlotFaults :
    ((withQueue .z 0 1 []).queue .z).head.toNat < ((withQueue .z 0 1 []).queue .z).tail.toNat ∧
    ((withQueue .z 0 1 []).queue .z).mem.read ((withQueue .z 0 1 []).queue .z).head.toNat = none := by decide

theorem witness_QdrainAnswersTheQueue :
    [(-20 : Sample), 30, 40].length =
      ((withQueue .x 1 4 [10, -20, 30, 40]).queue .x).tail.toNat -
        ((withQueue .x 1 4 [10, -20, 30, 40]).queue .x).head.toNat ∧
    ∀ j, j < [(-20 : Sample), 30, 40].length →
      ((withQueue .x 1 4 [10, -20, 30, 40]).queue .x).mem.read
        (((withQueue .x 1 4 [10, -20, 30, 40]).queue .x).head.toNat + j) = [(-20 : Sample), 30, 40][j]? := by decide

theorem witness_PushesSaturateInOrder :
    (State.reset.queue .y).head = 0 ∧ (State.reset.queue .y).tail = 0 := by decide

theorem witness_PushesSaturateInOrder_long :
    512 ≤ (List.replicate 512 (5 : Sample)).length ∧ (0 : Nat) < 511 ∧ (510 : Nat) < 511 :=
  ⟨Nat.le_of_eq List.length_replicate.symm, by decide, by decide⟩

theorem witness_QdrainAfterPushesIsFifo :
    (State.reset.queue .z).head = 0 ∧ (State.reset.queue .z).tail = 0 := by decide

theorem witness_QueuesAreIndependent :
    ((withQueue .y 0 1 [5]).setQueue .x ⟨[(0, 9)], 0, 1⟩).queue .y = (withQueue .y 0 1 [5]).queue .y ∧
    ∃ t, exec (.pop .y) (withQueue .y 0 1 [5]) = .next t := ⟨by decide, _, rfl⟩

theorem witness_QueuesAreIndependent_fault :
    (withQueue .x 0 1 []).queue .x = (withQueue .x 0 1 []).queue .x ∧
    exec (.pop .x) (withQueue .x 0 1 []) = .fault (.unwrittenSlot .x) := ⟨rfl, rfl⟩

theorem witness_SizeFallsOnlyByEmptying :
    ∃ t, exec (.pop .x) (withQueue .x 1 1 [5]) = .next t ∧
      (t.queue .x).tail.toNat < ((withQueue .x 1 1 [5]).queue .x).tail.toNat := ⟨_, rfl, by decide⟩

theorem witness_CanonicalArraysThatReadAlikeAreEqual :
    Memory.wf [(0, 5), (511, 8)] = true ∧ ∀ i, Memory.read [(0, 5), (511, 8)] i = Memory.read [(0, 5), (511, 8)] i :=
  ⟨by decide, fun _ => rfl⟩

theorem witness_FdrainWithoutBurst :
    (withBus [0x80, 0x05, 0xEE]).answers = 0x80 :: 0x05 :: [0xEE] ∧ sval (0x80#8 ++ 0x05#8 : BitVec 16) 15 ≤ 0 ∧
    (withBus [0x00, 0x00]).answers = 0x00 :: 0x00 :: [] ∧ sval (0x00#8 ++ 0x00#8 : BitVec 16) 15 ≤ 0 := by decide

theorem witness_FdrainDrainsTheBurst :
    (withBus [0x00, 0x02, 0xEE, 0xCE, 0x7F, 0xCE, 0xBF]).range ≠ 0 ∧ 0 < [(0x7FCE : RawWord), 0xBFCE].length ∧
    sval (0x00#8 ++ 0x02#8 : BitVec 16) 15 = [(0x7FCE : RawWord), 0xBFCE].length ∧
    (withBus [0x00, 0x02, 0xEE, 0xCE, 0x7F, 0xCE, 0xBF]).answers =
      0x00 :: 0x02 :: 0xEE :: ([(0x7FCE : RawWord), 0xBFCE].flatMap wordBytes ++ []) := by decide

theorem witness_FdrainNeverWritesHeadsOrTemperature :
    ∃ t, exec .fdrain (withBus [0x00, 0x01, 0xEE, 0xFF, 0xFF]) = .next t := ⟨_, rfl⟩

theorem witness_FdrainWaitsForMissingAnswers_count :
    (withBus [0x00]).csAsserted = false ∧ (withBus [0x00]).answers.length < 2 := by decide

theorem witness_FdrainWaitsForMissingAnswers_burst :
    (withBus [0x00, 0x01, 0xEE, 0xFF]).csAsserted = false ∧
    ∃ hi lo rest, (withBus [0x00, 0x01, 0xEE, 0xFF]).answers = hi :: lo :: rest ∧
      0 < sval (hi ++ lo : BitVec 16) 15 ∧ (rest.length : Int) < 1 + 2 * sval (hi ++ lo : BitVec 16) 15 :=
  ⟨rfl, 0x00, 0x01, [0xEE, 0xFF], rfl, by decide, by decide⟩

theorem witness_AnswersMayComeInPieces :
    State.reset.resetIn = false ∧
    ∃ t, exec .fdrain (State.reset.setAnswers [0x00]) = .next t ∧ t.busy = true := ⟨rfl, _, rfl, rfl⟩

theorem witness_OnlyFdrainDrivesChipSelect :
    Instr.rdaxis .x ≠ .fdrain ∧ ∃ t, exec (.rdaxis .x) (withBus [0x00, 0x32]) = .next t := ⟨by decide, _, rfl⟩

theorem witness_RdaxisAnswersTheSample :
    (offsets [0xFF, 0xCE]).answers = 0xFF :: 0xCE :: [] ∧ OffsetIs (offsets [0xFF, 0xCE]) .x 5 ∧
    OffsetIs (offsets [0xFF, 0xCE]) .y (-12) ∧ OffsetIs (offsets [0xFF, 0xCE]) .z 1000 ∧
    (offsets [0xFF, 0xCE]).range ≠ 0 := by unfold OffsetIs; decide

theorem witness_RdaxisWaitsForMissingAnswers : (withBus [0xFF]).answers.length < 2 := by decide

theorem witness_WrcfgWritesOnlyLegalRanges :
    ((8 : Sample).toNat = 2 ∨ (8 : Sample).toNat = 4 ∨ (8 : Sample).toNat = 8) ∧
    ¬ ((258 : Sample).toNat = 2 ∨ (258 : Sample).toNat = 4 ∨ (258 : Sample).toNat = 8) := by decide

theorem witness_OnlyWrcfgWritesConfiguration :
    (∀ r v, Instr.qreset .x ≠ .wrcfgZero r v) ∧ (∀ v, Instr.qreset .x ≠ .wrcfgRange v) ∧
    ∃ t, exec (.qreset .x) State.reset = .next t :=
  ⟨fun _ _ => Instr.noConfusion, fun _ => Instr.noConfusion, _, rfl⟩

theorem witness_CalibrationMovesReadingToTarget :
    calTarget .z = some 1000 ∧ scaleSample (false, 100) 4 (-3) = some 197 := by decide

end Sys2Proof.Tests
end

/-! PROOFS. One step of the machine, said once, and the words of the spec's own examples. -/

namespace Sys2Proof.Machine

/-! The branches of a step, in the order it looks at them (spec/10_state.md R37; spec/30_encoding.md R60, R65). -/

section Step
variable {s : State}

theorem step_of_resetIn (hreset : s.resetIn = true) : step s = .next s.applyReset := by
  simp [step, hreset]

theorem step_of_busy (hreset : s.resetIn = false) (hbusy : s.busy = true) : step s = s.resume := by
  simp [step, hreset, hbusy]

theorem step_of_portWord_none (hreset : s.resetIn = false) (hbusy : s.busy = false)
    (hport : s.portWord = none) : step s = .next s := by
  simp [step, hreset, hbusy, hport]

theorem step_of_decode_error {c : CmdWord} {e : DecodeError} (hreset : s.resetIn = false) (hbusy : s.busy = false)
    (hport : s.portWord = some c) (hdec : decode c = .error e) : step s = .next s.accept.refuse := by
  simp [step, hreset, hbusy, hport, hdec]

theorem step_of_decode_ok {c : CmdWord} {i : Instr} (hreset : s.resetIn = false) (hbusy : s.busy = false)
    (hport : s.portWord = some c) (hdec : decode c = .ok i) : step s = exec i s.accept := by
  simp [step, hreset, hbusy, hport, hdec]

/-- The port shows the first of the words the host will present (log 6). -/
theorem portWord_eq_none_iff : s.portWord = none ↔ s.commands = [] := List.head?_eq_none_iff

end Step

/-- Settles O9: the step looks at reset, `BUSY` and the port in turn, and finds nothing to do. -/
theorem idlePortHoldsState : Obligations.IdlePortHoldsState := by
  intro s hreset hbusy hcommands
  exact step_of_portWord_none hreset hbusy (portWord_eq_none_iff.mpr hcommands)

end Sys2Proof.Machine

namespace Sys2Proof

/-! The example words, by the units of the block. Each operation code picks its row of the table (spec/30_encoding.md
R64, the laws of `decode`); the format of the row then says which operands the word carries (R62). -/

/-- The codec's commands: formats W and M. -/
theorem decode_codecWords :
    decode 0x040000FFFB = .ok (.dec15 0xFFFB) ∧
    decode 0x0800007FCE = .ok (.dec13 0x7FCE) ∧
    decode 0x0C0000FFCE = .ok (.sgn15 0xFFCE) ∧
    decode 0x100000BFFF = .ok (.sgn13 0xBFFF) ∧
    decode 0x1400008032 = .ok (.tag 0x8032) ∧
    decode 0x1900000832 = .ok (.scale .y true 50) := by
  rw [decode_dec15 _ rfl, decode_dec13 _ rfl, decode_sgn15 _ rfl, decode_sgn13 _ rfl, decode_tag _ rfl,
    decode_scale _ rfl]
  simp only [decodeW_ok, decodeM_ok]
  decide

/-- The queues' commands: format V for PUSH, format Q for the others. -/
theorem decode_queueWords :
    decode 0x20FFFFFFFB = .ok (.push .x (-5)) ∧
    decode 0x2600000000 = .ok (.pop .z) ∧
    decode 0x2B00000000 = .ok (.size .t) ∧
    decode 0x2D00000000 = .ok (.qdrain .y) ∧
    decode 0x3200000000 = .ok (.qreset .z) ∧
    decode 0x3400000000 = .ok (.front .x) ∧
    decode 0x3900000000 = .ok (.back .y) := by
  rw [decode_push _ rfl, decode_pop _ rfl, decode_size _ rfl, decode_qdrain _ rfl, decode_qreset _ rfl,
    decode_front _ rfl, decode_back _ rfl]
  simp only [decodeV_ok, decodeQ_ok]
  decide

/-- The commands that read the sensor: formats N and Q. -/
theorem decode_sensorWords :
    decode 0x4000000000 = .ok .fdrain ∧
    decode 0x4600000000 = .ok (.rdaxis .z) ∧
    decode 0x4700000000 = .ok (.rdaxis .t) := by
  rw [decode_fdrain _ rfl, decode_rdaxis 0x4600000000 rfl, decode_rdaxis 0x4700000000 rfl]
  simp only [decodeN_ok, decodeQ_ok]
  decide

/-- The configuration commands: format V for WRCFG, whose register number tells its two rows apart, and format Q for
RDCFG. -/
theorem decode_configWords :
    decode 0x6000000005 = .ok (.wrcfgZero .zx 5) ∧
    decode 0x61FFFFFFF4 = .ok (.wrcfgZero .zy (-12)) ∧
    decode 0x62000003E8 = .ok (.wrcfgZero .zz 1000) ∧
    decode 0x6300000004 = .ok (.wrcfgRange 4) ∧
    decode 0x6400000000 = .ok (.rdcfg .zx) ∧
    decode 0x6600000000 = .ok (.rdcfg .zz) ∧
    decode 0x6700000000 = .ok (.rdcfg .range) := by
  rw [decode_wrcfg 0x6000000005 rfl, decode_wrcfg 0x61FFFFFFF4 rfl, decode_wrcfg 0x62000003E8 rfl,
    decode_wrcfg 0x6300000004 rfl, decode_rdcfg 0x6400000000 rfl, decode_rdcfg 0x6600000000 rfl,
    decode_rdcfg 0x6700000000 rfl]
  simp only [decodeV_ok, decodeQ_ok]
  decide

/-- Settles O3: the words of the four units, in the order of the opcode table. -/
theorem exampleWordsDecode : Obligations.ExampleWordsDecode := by
  simpa only [Obligations.ExampleWordsDecode, and_assoc] using
    And.intro decode_codecWords (And.intro decode_queueWords (And.intro decode_sensorWords decode_configWords))

end Sys2Proof

/-! PROOFS. What the block's state does not share with the host's side of the ports: every operation commutes with a
change of the words to come, the reset input and the answers at hand (log 3, 6, 8). -/

namespace Sys2Proof.Machine

/-- Change the words the host will present, the reset input and the peer's answers. -/
def State.mapPorts (s : State) (f : List CmdWord → List CmdWord) (g : Bool → Bool) (h : List Byte → List Byte) :
    State :=
  { s with commands := f s.commands, resetIn := g s.resetIn, answers := h s.answers }

section MapPorts
variable (s : State) (f : List CmdWord → List CmdWord) (g : Bool → Bool) (h : List Byte → List Byte)

@[simp] theorem State.mapPorts_range : (s.mapPorts f g h).range = s.range := rfl
@[simp] theorem State.mapPorts_phase : (s.mapPorts f g h).phase = s.phase := rfl
@[simp] theorem State.mapPorts_queue (a : Axis) : (s.mapPorts f g h).queue a = s.queue a := by
  cases a <;> rfl
@[simp] theorem State.mapPorts_zeroOffset (a : Axis) : (s.mapPorts f g h).zeroOffset a = s.zeroOffset a := by
  cases a <;> rfl
@[simp] theorem State.mapPorts_readCfg (r : CfgReg) : (s.mapPorts f g h).readCfg r = s.readCfg r := by
  cases r <;> rfl
@[simp] theorem State.mapPorts_setQueue (a : Axis) (q : Queue) :
    (s.mapPorts f g h).setQueue a q = (s.setQueue a q).mapPorts f g h := by
  cases a <;> rfl
@[simp] theorem State.mapPorts_respond (st : Status) (beats : List Sample) :
    (s.mapPorts f g h).respond st beats = (s.respond st beats).mapPorts f g h := rfl
@[simp] theorem State.mapPorts_refuse : (s.mapPorts f g h).refuse = s.refuse.mapPorts f g h := rfl
@[simp] theorem State.mapPorts_releaseCs : (s.mapPorts f g h).releaseCs = s.releaseCs.mapPorts f g h := rfl
@[simp] theorem State.mapPorts_writeCfg (r : CfgReg) (v : Sample) :
    (s.mapPorts f g h).writeCfg r v = (s.writeCfg r v).mapPorts f g h := by
  cases r with
  | range => simp only [State.writeCfg]; split <;> rfl
  | _ => rfl

theorem State.routeWord_mapPorts (w : RawWord) :
    (s.mapPorts f g h).routeWord w = (s.routeWord w).map (·.mapPorts f g h) := by
  simp only [State.routeWord, State.mapPorts_zeroOffset, State.mapPorts_range, State.mapPorts_queue,
    State.mapPorts_setQueue]
  cases s.zeroOffset (axisTag w) with
  | none => rfl
  | some z => cases hv : scaleSample (decFifo w) s.range z <;> simp [hv]

theorem State.routeAll_mapPorts (ws : List RawWord) :
    (s.mapPorts f g h).routeAll ws = (s.routeAll ws).map (·.mapPorts f g h) := by
  induction ws generalizing s with
  | nil => rfl
  | cons w ws ih =>
    rw [State.routeAll_cons, State.routeAll_cons, State.routeWord_mapPorts]
    cases s.routeWord w with
    | none => rfl
    | some t => exact ih t

theorem State.gotCount_mapPorts (count : Int) :
    (s.mapPorts f g h).gotCount count = (s.gotCount count).mapPorts f g h := by
  rcases lt_or_ge 0 count with hpos | hneg
  · rw [State.gotCount_burst _ _ hpos, State.gotCount_burst _ _ hpos]; rfl
  · rw [State.gotCount_done _ _ hneg, State.gotCount_done _ _ hneg]; rfl

theorem State.gotWord_mapPorts (left : Nat) (words : List RawWord) :
    (s.mapPorts f g h).gotWord left words = (s.gotWord left words).map (·.mapPorts f g h) := by
  rcases lt_or_ge 1 left with hmore | hlast
  · rw [State.gotWord_more _ _ _ hmore, State.gotWord_more _ _ _ hmore]; rfl
  · rw [State.gotWord_last _ _ _ hlast, State.gotWord_last _ _ _ hlast, State.mapPorts_releaseCs,
      State.routeAll_mapPorts, Option.map_map, Option.map_map]
    rfl

theorem State.gotAxisWord_mapPorts (a : Axis) (raw : RawWord) :
    (s.mapPorts f g h).gotAxisWord a raw = (s.gotAxisWord a raw).map (·.mapPorts f g h) := by
  simp only [State.gotAxisWord, State.mapPorts_zeroOffset, State.mapPorts_range, State.mapPorts_respond]
  cases s.zeroOffset a with
  | none => rfl
  | some z => cases hv : scaleSample (dec11 raw Config.sbitReg) s.range z <;> simp [hv]

/-- What a command does with a byte depends on none of the ports. -/
theorem State.deliver_mapPorts (b : Byte) :
    (s.mapPorts f g h).deliver b = (s.deliver b).map (·.mapPorts f g h) := by
  unfold State.deliver
  rw [State.mapPorts_phase]
  cases s.phase with
  | countLo hi => exact congrArg some (s.gotCount_mapPorts f g h _)
  | burstMsb left words lsb => exact s.gotWord_mapPorts f g h left _
  | axisLo a hi => exact s.gotAxisWord_mapPorts f g h a _
  | _ => rfl

end MapPorts

theorem State.deliver_setAnswers (s : State) (bs : List Byte) (b : Byte) :
    (s.setAnswers bs).deliver b = (s.deliver b).map (·.setAnswers bs) :=
  s.deliver_mapPorts id id (fun _ => bs) b

/-! A command goes on byte by byte (spec/42_drainer.md R126). -/

theorem State.setAnswers_eq_self {s : State} {bs : List Byte} (hbs : s.answers = bs) : s.setAnswers bs = s := by
  subst hbs; rfl

/-- With no answer at hand the command waits (spec/20_memory.md R48). -/
theorem State.resume_setAnswers_nil (s : State) : (s.setAnswers []).resume = .next (s.setAnswers []) := rfl

theorem State.resume_idle (s : State) (hp : s.phase = .idle) : s.resume = .next s := State.feed_idle _ _ hp

/-- With an answer at hand the command takes it and goes on, or stops by name (log 14). -/
theorem State.resume_setAnswers_cons (s : State) (b : Byte) (bs : List Byte) (hp : s.phase ≠ .idle) :
    (s.setAnswers (b :: bs)).resume =
      (s.deliver b).elim (.refused .rangeZero) (fun t => (t.setAnswers bs).resume) := by
  show State.feed (b :: bs) (s.setAnswers (b :: bs)) = _
  rw [State.feed_cons b bs (s.setAnswers (b :: bs)) hp, State.setAnswers_setAnswers, State.deliver_setAnswers]
  cases s.deliver b <;> rfl

theorem State.resume_of_deliver {s t : State} {b : Byte} (bs : List Byte) (hp : s.phase ≠ .idle)
    (hd : s.deliver b = some t) : (s.setAnswers (b :: bs)).resume = (t.setAnswers bs).resume := by
  rw [State.resume_setAnswers_cons s b bs hp, hd]; rfl

/-! The host's side goes through every command (spec/20_memory.md R54). -/

/-- A change of the host's words and reset input goes through a command in progress. -/
theorem State.feed_mapPorts_host (f : List CmdWord → List CmdWord) (g : Bool → Bool) (bs : List Byte) (s : State) :
    State.feed bs (s.mapPorts f g id) = mapNext (·.mapPorts f g id) (State.feed bs s) := by
  induction bs generalizing s with
  | nil => rfl
  | cons b bs ih =>
    by_cases hp : s.phase = .idle
    · rw [State.feed_idle _ s hp, State.feed_idle _ (s.mapPorts f g id) hp]; rfl
    · have hset : (s.mapPorts f g id).setAnswers bs = (s.setAnswers bs).mapPorts f g id := rfl
      rw [State.feed_cons b bs s hp, State.feed_cons b bs (s.mapPorts f g id) hp, hset, State.deliver_mapPorts]
      cases (s.setAnswers bs).deliver b with
      | none => rfl
      | some t => exact ih t

theorem State.resume_mapPorts_host (s : State) (f : List CmdWord → List CmdWord) (g : Bool → Bool) :
    (s.mapPorts f g id).resume = mapNext (·.mapPorts f g id) s.resume :=
  State.feed_mapPorts_host f g s.answers s

/-- No command looks at the host's later words or the reset input. -/
theorem exec_mapPorts_host (i : Instr) (s : State) (f : List CmdWord → List CmdWord) (g : Bool → Bool) :
    exec i (s.mapPorts f g id) = mapNext (·.mapPorts f g id) (exec i s) := by
  cases i with
  | dec15 w => rfl
  | dec13 w => rfl
  | sgn15 w => rfl
  | sgn13 w => rfl
  | tag w => rfl
  | front a => rfl
  | back a => rfl
  | scale a neg m =>
    simp only [exec, execScale, State.mapPorts_zeroOffset, State.mapPorts_range, State.mapPorts_respond,
      State.mapPorts_refuse]
    cases s.zeroOffset a with
    | none => rfl
    | some z => cases hv : scaleSample (neg, m) s.range z <;> simp [hv, mapNext]
  | push a v => simp [exec, execPush, mapNext]
  | pop a =>
    simp only [exec, execPop, State.mapPorts_queue, State.mapPorts_setQueue, State.mapPorts_respond]
    cases (s.queue a).popFront <;> rfl
  | size a => simp [exec, execSize, mapNext]
  | qdrain a =>
    simp only [exec, execQdrain, State.mapPorts_queue, State.mapPorts_setQueue, State.mapPorts_respond]
    cases (s.queue a).popMany (s.queue a).tail.toNat <;> rfl
  | qreset a => simp [exec, execQreset, mapNext]
  | fdrain => exact (s.askReg Config.addrFifoEntriesH .countHi).resume_mapPorts_host f g
  | rdaxis a => exact (s.askReg (Config.addrDataH a) (.axisHi a)).resume_mapPorts_host f g
  | wrcfgZero r v =>
    simp only [exec, execWrcfgZero, State.mapPorts_writeCfg, State.mapPorts_respond, State.mapPorts_refuse]
    split <;> rfl
  | wrcfgRange v =>
    simp only [exec, execWrcfgRange, State.mapPorts_writeCfg, State.mapPorts_respond, State.mapPorts_refuse]
    split <;> rfl
  | rdcfg r => simp [exec, execRdcfg, mapNext]

/-- Settles O18: the host's words and the reset input go through every command (R54, R60). -/
theorem hostSideDoesNotInfluence : Obligations.HostSideDoesNotInfluence := by
  intro i s cs rst
  exact exec_mapPorts_host i s (fun _ => cs) (fun _ => rst)

end Sys2Proof.Machine

/-! PROOFS. The invariant: its two halves, what keeps each of them, and the step (spec/10_state.md R26, R30, R31). -/

namespace Sys2Proof.Machine

/-! Scaling, with the range known (spec/40_codec.md R84). -/

theorem scaleSample_range_zero (p : Bool × Magnitude) (zero : Sample) : scaleSample p 0 zero = none := rfl

theorem scaleSample_of_range_ne {range : Byte} (hrange : range ≠ 0) (p : Bool × Magnitude) (zero : Sample) :
    scaleSample p range zero =
      some (wrap32 (Int.tdiv (pairValue p * 1000) (Int.tdiv 2000 range.toNat) + zero.toInt)) := by
  rcases scaleSample_cases p range zero with ⟨hzero, -⟩ | ⟨-, hscale⟩
  · exact absurd hzero hrange
  · exact hscale

/-- Every axis but T has an offset register (R27). -/
theorem State.zeroOffset_of_ne_t (s : State) {a : Axis} (ha : a ≠ .t) : ∃ z, s.zeroOffset a = some z := by
  cases a with
  | t => exact absurd rfl ha
  | _ => exact ⟨_, rfl⟩

theorem State.zeroOffset_eq_some_iff (s : State) (a : Axis) (z : Sample) :
    s.zeroOffset a = some z ↔ OffsetIs s a z := by
  cases a <;> simp [State.zeroOffset, OffsetIs, eq_comm]

/-- SCALE of an axis that has an offset (R91). -/
theorem execScale_of_offset {s : State} {a : Axis} {z : Sample} (hz : s.zeroOffset a = some z) (neg : Bool)
    (m : Magnitude) :
    execScale a neg m s =
      (scaleSample (neg, m) s.range z).elim (.refused .rangeZero) (fun v => .next (s.respond .ok [v])) := by
  simp only [execScale, hz]
  cases scaleSample (neg, m) s.range z <;> rfl

/-- RDAXIS of an axis that has an offset has its word (spec/43_session.md R136). -/
theorem State.gotAxisWord_of_offset {s : State} {a : Axis} {z : Sample} (hz : s.zeroOffset a = some z)
    (raw : RawWord) :
    s.gotAxisWord a raw = (scaleSample (dec11 raw 15) s.range z).map (fun v => s.respond .ok [v]) := by
  simp only [State.gotAxisWord, hz, Config.sbitReg]
  cases scaleSample (dec11 raw 15) s.range z <;> rfl

theorem State.gotAxisWord_t (s : State) (raw : RawWord) :
    s.gotAxisWord .t raw = some (s.respond .ok [wrap32 (sval raw 15)]) := rfl

/-- The magnitude of a word has 11 bits, so a count is at most 2047 (spec/42_drainer.md R120). -/
theorem sval_le (w : RawWord) (sb : Nat) : sval w sb ≤ 2047 := by
  have hm := (dec11 w sb).2.isLt
  unfold sval pairValue
  split <;> omega

/-! The half of the invariant that speaks of the registers a host can see: queues and RANGE. -/

/-- The queues are sound and RANGE is 2, 4 or 8. -/
def State.DataSound (s : State) : Prop :=
  (∀ a, (s.queue a).Sound) ∧ (s.range = 2 ∨ s.range = 4 ∨ s.range = 8)

/-- `BUSY`, chip-select and the burst's word count fit the phase. -/
def State.ControlSound (s : State) : Prop :=
  s.busy = decide (s.phase ≠ .idle) ∧ s.csAsserted = s.phase.inBurst ∧ s.phase.countsSound = true

theorem State.inv_iff (s : State) : s.Inv ↔ s.DataSound ∧ s.ControlSound := by
  have hqueues : (∀ a, (s.queue a).Sound) ↔ s.queueX.Sound ∧ s.queueY.Sound ∧ s.queueZ.Sound ∧ s.queueT.Sound :=
    ⟨fun h => ⟨h .x, h .y, h .z, h .t⟩, fun ⟨hx, hy, hz, ht⟩ a => by cases a <;> assumption⟩
  simp only [State.Inv, State.DataSound, State.ControlSound, hqueues, and_assoc]

section DataSound
variable {s : State}

theorem State.DataSound.queue (h : s.DataSound) (a : Axis) : (s.queue a).Sound := h.1 a

/-- RANGE 0 is no sound range (R26). -/
theorem State.DataSound.range_ne_zero (h : s.DataSound) : s.range ≠ 0 := by
  obtain ⟨-, hrange⟩ := h
  rcases hrange with h | h | h <;> rw [h] <;> decide

@[simp] theorem State.dataSound_respond (st : Status) (beats : List Sample) :
    (s.respond st beats).DataSound ↔ s.DataSound := by simp [State.DataSound]
@[simp] theorem State.dataSound_accept : s.accept.DataSound ↔ s.DataSound := by simp [State.DataSound]
@[simp] theorem State.dataSound_askReg (addr : Byte) (p : Phase) :
    (s.askReg addr p).DataSound ↔ s.DataSound := by simp [State.DataSound]
@[simp] theorem State.dataSound_askExchange (tx : Byte) (p : Phase) :
    (s.askExchange tx p).DataSound ↔ s.DataSound := by simp [State.DataSound]
@[simp] theorem State.dataSound_assertCs : s.assertCs.DataSound ↔ s.DataSound := by simp [State.DataSound]
@[simp] theorem State.dataSound_releaseCs : s.releaseCs.DataSound ↔ s.DataSound := by simp [State.DataSound]
theorem State.DataSound.setQueue (h : s.DataSound) (a : Axis) {q : Queue} (hq : q.Sound) :
    (s.setQueue a q).DataSound := by
  obtain ⟨hqueues, hrange⟩ := h
  refine ⟨fun b => ?_, by simpa using hrange⟩
  rw [State.setQueue_queue]
  split
  · exact hq
  · exact hqueues b

/-- A range the command WRCFG accepts is a sound one (R138, R26). -/
theorem legalRange_iff (v : Sample) : legalRange v = true ↔ v = 2 ∨ v = 4 ∨ v = 8 := by
  simp [legalRange, or_assoc]

theorem State.DataSound.writeCfg (h : s.DataSound) (r : CfgReg) (v : Sample) : (s.writeCfg r v).DataSound := by
  obtain ⟨hqueues, hrange⟩ := h
  refine ⟨fun a => by simpa using hqueues a, ?_⟩
  cases r with
  | range =>
    simp only [State.writeCfg]
    split
    · next hlegal =>
      rcases (legalRange_iff v).1 hlegal with rfl | rfl | rfl
      · exact .inl rfl
      · exact .inr (.inl rfl)
      · exact .inr (.inr rfl)
    · exact hrange
  | _ => exact hrange

/-- Routing a word answers a state that is sound again, with the control registers as they were (R122, R123). -/
theorem State.DataSound.routeWord (h : s.DataSound) (w : RawWord) :
    ∃ t, s.routeWord w = some t ∧ t.DataSound ∧ t.csAsserted = s.csAsserted := by
  rcases s.routeWord_cases w with ⟨-, ht⟩ | ⟨z, -, hnone, -⟩ | ⟨z, v, -, -, ht⟩
  · exact ⟨s, ht, h, rfl⟩
  · rw [scaleSample_of_range_ne h.range_ne_zero] at hnone; cases hnone
  · exact ⟨_, ht, h.setQueue _ (Queue.pushBack_sound _ _ (h.queue _)), State.setQueue_csAsserted ..⟩

theorem State.DataSound.routeAll (h : s.DataSound) (ws : List RawWord) :
    ∃ t, s.routeAll ws = some t ∧ t.DataSound ∧ t.csAsserted = s.csAsserted := by
  induction ws generalizing s with
  | nil => exact ⟨s, rfl, h, rfl⟩
  | cons w ws ih =>
    obtain ⟨u, hu, husound, hucs⟩ := h.routeWord w
    obtain ⟨t, ht, htsound, htcs⟩ := ih husound
    exact ⟨t, by rw [State.routeAll_cons, hu]; exact ht, htsound, htcs.trans hucs⟩

/-! Both halves together: a command that responds, and one that waits. -/

/-- A response with chip-select released ends in a state with the invariant. -/
theorem State.DataSound.inv_respond (h : s.DataSound) (hcs : s.csAsserted = false) (st : Status)
    (beats : List Sample) : (s.respond st beats).Inv :=
  (State.inv_iff _).2 ⟨by simpa using h, rfl, hcs, rfl⟩

theorem State.DataSound.inv_askReg (h : s.DataSound) {p : Phase} (hp : p ≠ .idle) (hcs : s.csAsserted = p.inBurst)
    (hcount : p.countsSound = true) (addr : Byte) : (s.askReg addr p).Inv :=
  (State.inv_iff _).2 ⟨by simpa using h, by simp [hp], hcs, hcount⟩

theorem State.DataSound.inv_askExchange (h : s.DataSound) {p : Phase} (hp : p ≠ .idle)
    (hcs : s.csAsserted = p.inBurst) (hcount : p.countsSound = true) (tx : Byte) : (s.askExchange tx p).Inv :=
  (State.inv_iff _).2 ⟨by simpa using h, by simp [hp], hcs, hcount⟩

theorem State.DataSound.inv_gotCount (h : s.DataSound) (hcs : s.csAsserted = false) {n : Int} (hn : n ≤ 2047) :
    (s.gotCount n).Inv := by
  rcases lt_or_ge 0 n with hpos | hneg
  · rw [State.gotCount_burst _ _ hpos]
    exact State.DataSound.inv_askExchange (by simpa using h) Phase.noConfusion rfl
      (by simp [Phase.countsSound]; omega) _
  · rw [State.gotCount_done _ _ hneg]
    exact h.inv_respond hcs _ _

theorem State.DataSound.inv_gotWord (h : s.DataSound) (hcs : s.csAsserted = true) (left : Nat)
    (words : List RawWord) (hcount : left + words.length ≤ 2048) :
    ∃ t, s.gotWord left words = some t ∧ t.Inv := by
  rcases lt_or_ge 1 left with hmore | hlast
  · refine ⟨_, State.gotWord_more _ _ _ hmore,
      h.inv_askExchange (p := .burstLsb (left - 1) words) Phase.noConfusion hcs ?_ _⟩
    simp [Phase.countsSound]; omega
  · obtain ⟨t, ht, htsound, htcs⟩ := State.DataSound.routeAll (State.dataSound_releaseCs.2 h) words.reverse
    exact ⟨_, by rw [State.gotWord_last _ _ _ hlast, ht]; rfl, htsound.inv_respond htcs _ _⟩

theorem State.DataSound.inv_gotAxisWord (h : s.DataSound) (hcs : s.csAsserted = false) (a : Axis) (raw : RawWord) :
    ∃ t, s.gotAxisWord a raw = some t ∧ t.Inv := by
  by_cases ha : a = .t
  · subst ha
    exact ⟨_, s.gotAxisWord_t raw, h.inv_respond hcs _ _⟩
  · obtain ⟨z, hz⟩ := s.zeroOffset_of_ne_t ha
    rw [State.gotAxisWord_of_offset hz, scaleSample_of_range_ne h.range_ne_zero]
    exact ⟨_, rfl, h.inv_respond hcs _ _⟩

end DataSound

/-- From a sound state a byte leads to a sound state, in every phase (spec/42_drainer.md R126). -/
theorem State.deliver_inv {s : State} (h : s.Inv) (b : Byte) : ∃ t, s.deliver b = some t ∧ t.Inv := by
  obtain ⟨hdata, -, hcs, hcount⟩ := s.inv_iff.1 h
  cases hp : s.phase with
  | idle => exact ⟨s, s.deliver_idle b hp, h⟩
  | countHi =>
    exact ⟨_, s.deliver_countHi b hp, hdata.inv_askReg Phase.noConfusion (by rw [hcs, hp]; rfl) rfl _⟩
  | countLo hi =>
    exact ⟨_, s.deliver_countLo b hi hp, hdata.inv_gotCount (by rw [hcs, hp]; rfl) (sval_le _ _)⟩
  | burstCmd left =>
    refine ⟨_, s.deliver_burstCmd b left hp, hdata.inv_askExchange Phase.noConfusion (by rw [hcs, hp]; rfl) ?_ _⟩
    simpa [hp, Phase.countsSound] using hcount
  | burstLsb left words =>
    refine ⟨_, s.deliver_burstLsb b left words hp,
      hdata.inv_askExchange Phase.noConfusion (by rw [hcs, hp]; rfl) ?_ _⟩
    simpa [hp, Phase.countsSound] using hcount
  | burstMsb left words lsb =>
    rw [s.deliver_burstMsb b left words lsb hp]
    refine hdata.inv_gotWord (by rw [hcs, hp]; rfl) _ _ ?_
    simp [hp, Phase.countsSound] at hcount
    simp; omega
  | axisHi a =>
    exact ⟨_, s.deliver_axisHi b a hp, hdata.inv_askReg Phase.noConfusion (by rw [hcs, hp]; rfl) rfl _⟩
  | axisLo a hi =>
    rw [s.deliver_axisLo b a hi hp]
    exact hdata.inv_gotAxisWord (by rw [hcs, hp]; rfl) _ _

/-- The outcome is a next state with the invariant: what both statements about sound states rest on. -/
def SoundOutcome (o : Host.Outcome State Fault Refusal) : Prop := ∃ t, o = .next t ∧ t.Inv

/-- A command in progress goes on soundly over any answers. -/
theorem State.feed_sound (bs : List Byte) {s : State} (h : s.Inv) : SoundOutcome (State.feed bs s) := by
  induction bs generalizing s with
  | nil => exact ⟨s, rfl, h⟩
  | cons b bs ih =>
    by_cases hp : s.phase = .idle
    · exact ⟨s, State.feed_idle _ _ hp, h⟩
    · obtain ⟨t, ht, htinv⟩ := State.deliver_inv (s := s.setAnswers bs) h b
      rw [State.feed_cons _ _ _ hp, ht]
      exact ih htinv

theorem State.resume_sound {s : State} (h : s.Inv) : SoundOutcome s.resume := State.feed_sound _ h

/-- From sound queues, a sound RANGE and chip-select released, every command ends or waits in a sound state. -/
theorem exec_sound (i : Instr) {s : State} (h : s.DataSound) (hcs : s.csAsserted = false) :
    SoundOutcome (exec i s) := by
  have hrespond (st : Status) (beats : List Sample) : SoundOutcome (.next (s.respond st beats)) :=
    ⟨_, rfl, h.inv_respond hcs st beats⟩
  have hqueue (a : Axis) {q : Queue} (hq : q.Sound) (st : Status) (beats : List Sample) :
      SoundOutcome (.next ((s.setQueue a q).respond st beats)) :=
    ⟨_, rfl, (h.setQueue a hq).inv_respond (by simpa using hcs) st beats⟩
  have hwrite (r : CfgReg) (v : Sample) : SoundOutcome (.next ((s.writeCfg r v).respond .ok [])) :=
    ⟨_, rfl, (h.writeCfg r v).inv_respond (by simpa using hcs) _ _⟩
  cases i with
  | dec15 w => exact hrespond _ _
  | dec13 w => exact hrespond _ _
  | sgn15 w => exact hrespond _ _
  | sgn13 w => exact hrespond _ _
  | tag w => exact hrespond _ _
  | scale a neg m =>
    show SoundOutcome (execScale a neg m s)
    by_cases ha : a = .t
    · subst ha
      exact hrespond _ _
    · obtain ⟨z, hz⟩ := s.zeroOffset_of_ne_t ha
      rw [execScale_of_offset hz, scaleSample_of_range_ne h.range_ne_zero]
      exact hrespond _ _
  | push a v => exact hqueue a (Queue.pushBack_sound _ _ (h.queue a)) _ _
  | pop a =>
    obtain ⟨st, v, q, hpop⟩ := Queue.popFront_isSome _ (h.queue a)
    simpa only [exec, execPop, hpop] using hqueue a (Queue.popFront_sound _ _ _ _ (h.queue a) hpop) st [v]
  | size a => exact hrespond _ _
  | qdrain a =>
    obtain ⟨vs, q, hpops⟩ := Queue.popMany_isSome (s.queue a).tail.toNat _ (h.queue a)
    simpa only [exec, execQdrain, hpops] using hqueue a Queue.clear_sound .ok vs
  | qreset a => exact hqueue a Queue.clear_sound _ _
  | front a => exact hrespond _ _
  | back a => exact hrespond _ _
  | fdrain => exact State.resume_sound (h.inv_askReg (p := .countHi) Phase.noConfusion hcs rfl _)
  | rdaxis a => exact State.resume_sound (h.inv_askReg (p := .axisHi a) Phase.noConfusion hcs rfl _)
  | wrcfgZero r v =>
    simp only [exec, execWrcfgZero]
    split
    · exact hrespond _ _
    · exact hwrite r v
  | wrcfgRange v =>
    simp only [exec, execWrcfgRange]
    split
    · exact hwrite .range v
    · exact hrespond _ _
  | rdcfg r => exact hrespond _ _

/-- Settles O13: the reset queues are sound, and the other clauses compare constants. -/
theorem resetStateSound : Obligations.ResetStateSound :=
  (State.inv_iff _).2 ⟨⟨fun a => by cases a <;> exact Queue.initial_sound, .inl rfl⟩, rfl, rfl, rfl⟩

/-- A step from a state with the invariant answers a next state with the invariant. -/
theorem step_sound {s : State} (h : s.Inv) : SoundOutcome (step s) := by
  obtain ⟨hdata, hbusy, hcs, -⟩ := s.inv_iff.1 h
  cases hreset : s.resetIn with
  | true => exact ⟨_, step_of_resetIn hreset, resetStateSound⟩
  | false =>
    cases hb : s.busy with
    | true => rw [step_of_busy hreset hb]; exact State.resume_sound h
    | false =>
      have hphase : s.phase = .idle := by simpa [hb] using hbusy.symm
      have hreleased : s.csAsserted = false := by rw [hcs, hphase]; rfl
      have haccept : s.accept.DataSound := State.dataSound_accept.2 hdata
      cases hport : s.portWord with
      | none => exact ⟨s, step_of_portWord_none hreset hb hport, h⟩
      | some c =>
        cases hdec : decode c with
        | error e => exact ⟨_, step_of_decode_error hreset hb hport hdec, haccept.inv_respond hreleased _ _⟩
        | ok i => rw [step_of_decode_ok hreset hb hport hdec]; exact exec_sound i haccept hreleased

/-- Settles O14: the next state of a sound step is the one with the invariant. -/
theorem stepKeepsInvariant : Obligations.StepKeepsInvariant := by
  intro s t h hstep
  obtain ⟨u, hu, huinv⟩ := step_sound h
  obtain rfl : u = t := Host.Outcome.next.inj (hu.symm.trans hstep)
  exact huinv

/-- Settles O15: a sound step answers a next state. -/
theorem soundStatesNeverStop : Obligations.SoundStatesNeverStop := by
  intro s h
  obtain ⟨t, ht, -⟩ := step_sound h
  exact ⟨t, ht⟩

end Sys2Proof.Machine

/-! PROOFS. Reset, and what a response and a configuration write leave as they were. -/

namespace Sys2Proof.Machine

/-- Settles O11: every queue of the reset state is the initial one. -/
theorem resetLeavesQueuesEmpty : Obligations.ResetLeavesQueuesEmpty := by
  intro a
  cases a <;> exact ⟨rfl, rfl⟩

/-- Settles O12: the backing arrays list no slot, and the other fields are the constants of the reset state. -/
theorem resetValuesOfTheBlock : Obligations.ResetValuesOfTheBlock :=
  ⟨fun a i => by cases a <;> exact Memory.read_nil i, rfl, rfl, rfl, rfl, rfl, rfl, rfl, rfl⟩

/-- Settles O10: a pulse is looked at first, and `applyReset` keeps the ports' other side only. -/
theorem resetInputResets : Obligations.ResetInputResets := by
  intro s hreset
  refine ⟨_, step_of_resetIn hreset, fun a => by cases a <;> rfl, ⟨rfl, rfl, rfl, rfl⟩, rfl, rfl, rfl, rfl, rfl, rfl,
    rfl, ?_⟩
  rw [State.applyReset_trace]
  split <;> rfl

section Frames
variable (s : State)

theorem answered_respond (st : Status) (beats : List Sample) : Answered st beats s (s.respond st beats) :=
  ⟨rfl, rfl, rfl⟩

/-- A response changes nothing but what `Answered` says (R67). -/
theorem unchanged_respond (st : Status) (beats : List Sample) : Unchanged s (s.respond st beats) :=
  ⟨fun _ => State.respond_queue .., ⟨rfl, rfl, rfl, rfl⟩, ⟨rfl, rfl, rfl⟩, rfl, rfl⟩

theorem answered_writeCfg_respond (r : CfgReg) (v : Sample) (st : Status) (beats : List Sample) :
    Answered st beats s ((s.writeCfg r v).respond st beats) :=
  ⟨by simp, rfl, rfl⟩

/-- A configuration write leaves the queues, the bus and the host's side alone (R137, R138). -/
theorem writeCfg_respond_frame (r : CfgReg) (v : Sample) (st : Status) (beats : List Sample) :
    SameQueues s ((s.writeCfg r v).respond st beats) ∧ SameBus s ((s.writeCfg r v).respond st beats) ∧
      SameHost s ((s.writeCfg r v).respond st beats) :=
  ⟨fun a => by simp, by simp [SameBus], by simp [SameHost]⟩

theorem sameConfig_setQueue_respond (a : Axis) (q : Queue) (st : Status) (beats : List Sample) :
    SameConfig s ((s.setQueue a q).respond st beats) := by simp [SameConfig]

/-- A queue command's answer leaves the other queues, the configuration and the bus alone (R22). -/
theorem setQueue_respond_frame (a : Axis) (q : Queue) (st : Status) (beats : List Sample) :
    SameQueuesBut a s ((s.setQueue a q).respond st beats) ∧ SameConfig s ((s.setQueue a q).respond st beats) ∧
      SameBus s ((s.setQueue a q).respond st beats) :=
  ⟨fun b hb => by rw [State.respond_queue, State.setQueue_queue_other s a b q hb],
    sameConfig_setQueue_respond s a q st beats, by simp [SameBus]⟩

end Frames

/-! SCALE (spec/40_codec.md R91). -/

/-- DATA of a format M word (R62): bits 31:12 are 0. -/
theorem formatM_zeros (op : BitVec 6) (ax : BitVec 2) (neg : Bool) (m : Magnitude) :
    (cmdWord op ax ((BitVec.ofBool neg ++ m).setWidth 32)).extractLsb' 12 20 = 0#20 := by
  apply BitVec.eq_of_getLsbD_eq
  intro i hi
  simp only [cmdWord, BitVec.getLsbD_extractLsb', BitVec.getLsbD_append, BitVec.getLsbD_setWidth]
  interval_cases i <;> simp

/-- DATA of a format M word (R62): bit 11 is the sign. -/
theorem formatM_sign (op : BitVec 6) (ax : BitVec 2) (neg : Bool) (m : Magnitude) :
    (cmdWord op ax ((BitVec.ofBool neg ++ m).setWidth 32)).getLsbD 11 = neg := by
  simp only [cmdWord, BitVec.getLsbD_append, BitVec.getLsbD_setWidth]
  simp

/-- DATA of a format M word (R62): bits 10:0 are the magnitude. -/
theorem formatM_magnitude (op : BitVec 6) (ax : BitVec 2) (neg : Bool) (m : Magnitude) :
    (cmdWord op ax ((BitVec.ofBool neg ++ m).setWidth 32)).extractLsb' 0 11 = m := by
  apply BitVec.eq_of_getLsbD_eq
  intro i hi
  simp only [cmdWord, BitVec.getLsbD_extractLsb', BitVec.getLsbD_append, BitVec.getLsbD_setWidth]
  interval_cases i <;> simp

/-- The word of a well-formed SCALE decodes to it. -/
theorem decode_scaleWord {a : Axis} (ha : a ≠ .t) (neg : Bool) (m : Magnitude) :
    decode (cmdWord 0x06 a.code ((BitVec.ofBool neg ++ m).setWidth 32)) = .ok (.scale a neg m) := by
  refine (decode_scale _ (opField_cmdWord ..)).trans ((decodeM_ok ..).2 ⟨?_, formatM_zeros .., ?_⟩)
  · rw [axField_cmdWord]
    cases a with
    | t => exact absurd rfl ha
    | _ => exact (by decide)
  · rw [axField_cmdWord, Axis.ofCode_code, formatM_sign, formatM_magnitude]

/-- Settles O27: the axis has an offset and RANGE is not 0, so the sample is scaled; T has none, so it is refused. -/
theorem scaleCommandAnswers : Obligations.ScaleCommandAnswers := by
  intro a neg m s
  refine ⟨fun ha => decode_scaleWord ha neg m, fun z hz hrange => ?_, fun ha => ?_⟩
  · have hexec : exec (.scale a neg m) s = execScale a neg m s := rfl
    rw [hexec, execScale_of_offset ((s.zeroOffset_eq_some_iff a z).2 hz), scaleSample_of_range_ne hrange]
    exact ⟨_, rfl, unchanged_respond .., answered_respond ..⟩
  · subst ha
    exact ⟨s.refuse, rfl, unchanged_respond .., answered_respond ..⟩

/-! WRCFG (spec/43_session.md R137, R138). -/

theorem decode_wrcfgZeroWord {r : CfgReg} (hr : r ≠ .range) (v : Sample) :
    decode (cmdWord 0x18 r.code v) = .ok (.wrcfgZero r v) := by
  refine (decode_wrcfg _ (opField_cmdWord ..)).trans ((decodeV_ok ..).2 ?_)
  rw [axField_cmdWord, dataField_cmdWord, CfgReg.ofCode_code]
  refine if_neg ?_
  cases r with
  | range => exact absurd rfl hr
  | _ => exact (by decide)

theorem decode_wrcfgRangeWord (v : Sample) : decode (cmdWord 0x18 3 v) = .ok (.wrcfgRange v) := by
  refine (decode_wrcfg _ (opField_cmdWord ..)).trans ((decodeV_ok ..).2 ?_)
  rw [axField_cmdWord, dataField_cmdWord]
  exact if_pos rfl

/-- WRCFG to an offset register answers OK and leaves all but the configuration alone (R137). -/
theorem exec_wrcfgZero_answers {r : CfgReg} (hr : r ≠ .range) (v : Sample) (s : State) :
    exec (.wrcfgZero r v) s = .next ((s.writeCfg r v).respond .ok []) ∧
      Answered .ok [] s ((s.writeCfg r v).respond .ok []) ∧ SameQueues s ((s.writeCfg r v).respond .ok []) ∧
      SameBus s ((s.writeCfg r v).respond .ok []) ∧ SameHost s ((s.writeCfg r v).respond .ok []) :=
  ⟨if_neg hr, answered_writeCfg_respond .., writeCfg_respond_frame ..⟩

/-- Settles O49: each offset register has its own clause; RANGE is no register of this variant. -/
theorem wrcfgWritesAnOffset : Obligations.WrcfgWritesAnOffset := by
  intro v s
  obtain ⟨hexecX, hanswerX, hqueuesX, hbusX, hhostX⟩ := exec_wrcfgZero_answers (r := .zx) CfgReg.noConfusion v s
  obtain ⟨hexecY, hanswerY, hqueuesY, hbusY, hhostY⟩ := exec_wrcfgZero_answers (r := .zy) CfgReg.noConfusion v s
  obtain ⟨hexecZ, hanswerZ, hqueuesZ, hbusZ, hhostZ⟩ := exec_wrcfgZero_answers (r := .zz) CfgReg.noConfusion v s
  exact ⟨
    ⟨decode_wrcfgZeroWord (r := .zx) CfgReg.noConfusion v, _, hexecX, hanswerX, hqueuesX, hbusX, hhostX,
      rfl, rfl, rfl, rfl⟩,
    ⟨decode_wrcfgZeroWord (r := .zy) CfgReg.noConfusion v, _, hexecY, hanswerY, hqueuesY, hbusY, hhostY,
      rfl, rfl, rfl, rfl⟩,
    ⟨decode_wrcfgZeroWord (r := .zz) CfgReg.noConfusion v, _, hexecZ, hanswerZ, hqueuesZ, hbusZ, hhostZ,
      rfl, rfl, rfl, rfl⟩,
    s.refuse, rfl, answered_respond .., unchanged_respond ..⟩

theorem legalRange_iff_toNat (v : Sample) : legalRange v = true ↔ v.toNat = 2 ∨ v.toNat = 4 ∨ v.toNat = 8 := by
  simp [legalRange_iff, BitVec.toNat_eq]

theorem State.writeCfg_range_of_legal (s : State) {v : Sample} (hv : legalRange v = true) :
    s.writeCfg .range v = { s with range := v.setWidth 8 } := if_pos hv

/-- Settles O50: a legal value fits RANGE's 8 bits; any other is refused. -/
theorem wrcfgWritesOnlyLegalRanges : Obligations.WrcfgWritesOnlyLegalRanges := by
  intro v s
  refine ⟨decode_wrcfgRangeWord v, fun hv => ?_, fun hv => ?_⟩
  · have hlegal := (legalRange_iff_toNat v).2 hv
    obtain ⟨hqueues, hbus, hhost⟩ := writeCfg_respond_frame s .range v .ok []
    refine ⟨_, if_pos hlegal, answered_writeCfg_respond .., hqueues, hbus, hhost, ?_⟩
    rw [State.writeCfg_range_of_legal s hlegal]
    refine ⟨?_, rfl, rfl, rfl⟩
    rw [State.respond_range, BitVec.toNat_setWidth]
    omega
  · exact ⟨s.refuse, if_neg (mt (legalRange_iff_toNat v).1 hv), answered_respond .., unchanged_respond ..⟩

end Sys2Proof.Machine

/-! PROOFS. The queue commands (spec/41_queue.md): each is a function of its own queue. -/

namespace Sys2Proof.Machine

theorem State.setQueue_self (s : State) (a : Axis) : s.setQueue a (s.queue a) = s := by
  cases a <;> rfl

/-- Answer what an operation on queue `a` gave: its status, its beats and the queue after, or the fault of a pop that
found no value (R34). -/
def State.answerQueue (s : State) (a : Axis) (r : Option (Status × List Sample × Queue)) :
    Host.Outcome State Fault Refusal :=
  r.elim (.fault (.unwrittenSlot a)) fun (st, beats, q) => .next ((s.setQueue a q).respond st beats)

/-- The outcome of a queue command is a function of its queue alone (R22). -/
theorem exec_queueCommand {i : Instr} {a : Axis}
    (hi : i = .pop a ∨ i = .size a ∨ i = .qdrain a ∨ i = .qreset a ∨ i = .front a ∨ i = .back a ∨ ∃ v, i = .push a v) :
    ∃ f : Queue → Option (Status × List Sample × Queue), ∀ s, exec i s = s.answerQueue a (f (s.queue a)) := by
  have hkeep (s : State) (st : Status) (beats : List Sample) :
      Host.Outcome.next (s.respond st beats) = s.answerQueue a (some (st, beats, s.queue a)) := by
    simp [State.answerQueue, State.setQueue_self]
  rcases hi with rfl | rfl | rfl | rfl | rfl | rfl | ⟨v, rfl⟩
  · refine ⟨fun q => q.popFront.map fun (st, v, q') => (st, [v], q'), fun s => ?_⟩
    simp only [exec, execPop, State.answerQueue]
    cases (s.queue a).popFront <;> rfl
  · exact ⟨fun q => some (.ok, [indexBeat q.tail], q), fun s => hkeep s _ _⟩
  · refine ⟨fun q => (q.popMany q.tail.toNat).map fun (vs, _) => (.ok, vs, Queue.clear), fun s => ?_⟩
    simp only [exec, execQdrain, State.answerQueue]
    cases (s.queue a).popMany (s.queue a).tail.toNat <;> rfl
  · exact ⟨fun _ => some (.ok, [], Queue.clear), fun s => rfl⟩
  · exact ⟨fun q => some (.refused, [], q), fun s => hkeep s _ _⟩
  · exact ⟨fun q => some (.refused, [], q), fun s => hkeep s _ _⟩
  · exact ⟨fun q => some (pushStatus q.tail, [], q.pushBack v), fun s => rfl⟩

/-- Settles O38: two states with the same queue `a` give the command the same result to answer. -/
theorem queuesAreIndependent : Obligations.QueuesAreIndependent := by
  intro i a s hi
  obtain ⟨f, hf⟩ := exec_queueCommand hi
  rw [hf s]
  cases hr : f (s.queue a) with
  | none =>
    refine ⟨fun t ht => (by cases ht), fun s' hq => ⟨fun t ht => (by cases ht), fun g hg => ?_,
      fun g hg => (by cases hg)⟩⟩
    rw [hf s', hq, hr]
    exact hg
  | some r =>
    obtain ⟨st, beats, q⟩ := r
    refine ⟨fun t ht => ?_, fun s' hq => ⟨fun t ht => ?_, fun g hg => (by cases hg),
      fun g hg => (by cases hg)⟩⟩
    · cases ht
      exact setQueue_respond_frame s a q st beats
    · cases ht
      exact ⟨_, ⟨st, beats⟩, by rw [hf s', hq, hr]; rfl, by simp, by simp, by simp⟩

theorem Queue.popFront_of_unwritten {q : Queue} (hlt : q.head < q.tail) (hread : q.mem.read q.head.toNat = none) :
    q.popFront = none := by
  simp [Queue.popFront, hlt, hread]

theorem Queue.popMany_of_popFront_none {q : Queue} (hpop : q.popFront = none) {n : Nat} (hn : 0 < n) :
    q.popMany n = none := by
  obtain ⟨m, rfl⟩ := Nat.exists_eq_succ_of_ne_zero hn.ne'
  simp [Queue.popMany, hpop]

/-- Settles O31: QDRAIN's first pop is POP's, and it makes one, since TAIL is above HEAD. -/
theorem popOfUnwrittenSlotFaults : Obligations.PopOfUnwrittenSlotFaults := by
  intro a s hlt hread
  have hpop := Queue.popFront_of_unwritten (BitVec.lt_def.2 hlt) hread
  constructor
  · simp only [exec, execPop, hpop]
  · simp only [exec, execQdrain, Queue.popMany_of_popFront_none hpop (Nat.zero_lt_of_lt hlt)]

end Sys2Proof.Machine

/-! PROOFS. What the commands that use the bus leave as it was (spec/42_drainer.md R123, R124). -/

namespace Sys2Proof.Machine

/-- Every HEAD, the T queue and the configuration are as they were: what no byte of the bus changes. -/
def BusFrame (s t : State) : Prop :=
  (∀ a, (t.queue a).head = (s.queue a).head) ∧ t.queue .t = s.queue .t ∧ SameConfig s t

theorem BusFrame.of_same {s t : State} (hqueues : SameQueues s t) (hconfig : SameConfig s t) : BusFrame s t :=
  ⟨fun a => by rw [hqueues a], hqueues .t, hconfig⟩

theorem BusFrame.refl (s : State) : BusFrame s s := .of_same (fun _ => rfl) ⟨rfl, rfl, rfl, rfl⟩

theorem BusFrame.trans {s t u : State} (hst : BusFrame s t) (htu : BusFrame t u) : BusFrame s u := by
  obtain ⟨hhead, htemp, hx, hy, hz, hr⟩ := hst
  obtain ⟨hhead', htemp', hx', hy', hz', hr'⟩ := htu
  exact ⟨fun a => (hhead' a).trans (hhead a), htemp'.trans htemp, hx'.trans hx, hy'.trans hy, hz'.trans hz,
    hr'.trans hr⟩

section BusFrame
variable (s : State)

theorem busFrame_respond (st : Status) (beats : List Sample) : BusFrame s (s.respond st beats) :=
  .of_same (fun _ => State.respond_queue ..) ⟨rfl, rfl, rfl, rfl⟩
theorem busFrame_askReg (addr : Byte) (p : Phase) : BusFrame s (s.askReg addr p) :=
  .of_same (fun _ => State.askReg_queue ..) ⟨rfl, rfl, rfl, rfl⟩
theorem busFrame_askExchange (tx : Byte) (p : Phase) : BusFrame s (s.askExchange tx p) :=
  .of_same (fun _ => State.askExchange_queue ..) ⟨rfl, rfl, rfl, rfl⟩
theorem busFrame_assertCs : BusFrame s s.assertCs := .of_same (fun _ => State.assertCs_queue ..) ⟨rfl, rfl, rfl, rfl⟩
theorem busFrame_releaseCs : BusFrame s s.releaseCs :=
  .of_same (fun _ => State.releaseCs_queue ..) ⟨rfl, rfl, rfl, rfl⟩
theorem busFrame_setAnswers (bs : List Byte) : BusFrame s (s.setAnswers bs) :=
  .of_same (fun _ => State.setAnswers_queue ..) ⟨rfl, rfl, rfl, rfl⟩

theorem busFrame_pushBack {a : Axis} (ha : a ≠ .t) (v : Sample) :
    BusFrame s (s.setQueue a ((s.queue a).pushBack v)) := by
  refine ⟨fun b => ?_, State.setQueue_queue_other _ _ _ _ ha.symm, by simp [SameConfig]⟩
  rw [State.setQueue_queue]
  split
  · next hb => rw [hb, Queue.pushBack_head]
  · rfl

end BusFrame

section
variable {s t : State}

theorem State.routeWord_frame {w : RawWord} (ht : s.routeWord w = some t) : BusFrame s t := by
  rcases s.routeWord_cases w with ⟨-, hr⟩ | ⟨z, -, -, hr⟩ | ⟨z, v, hz, -, hr⟩
  · cases hr.symm.trans ht
    exact .refl _
  · cases hr.symm.trans ht
  · cases hr.symm.trans ht
    refine busFrame_pushBack s (fun ha => ?_) v
    rw [ha] at hz
    cases hz

theorem State.routeAll_frame {ws : List RawWord} (ht : s.routeAll ws = some t) : BusFrame s t := by
  induction ws generalizing s with
  | nil => cases ht; exact .refl _
  | cons w ws ih =>
    rw [State.routeAll_cons] at ht
    obtain ⟨u, hu, ht⟩ := Option.bind_eq_some_iff.1 ht
    exact (State.routeWord_frame hu).trans (ih ht)

theorem State.gotCount_frame (s : State) (n : Int) : BusFrame s (s.gotCount n) := by
  rcases lt_or_ge 0 n with hpos | hneg
  · rw [State.gotCount_burst _ _ hpos]
    exact (busFrame_assertCs s).trans (busFrame_askExchange ..)
  · rw [State.gotCount_done _ _ hneg]
    exact busFrame_respond ..

theorem State.gotWord_frame {left : Nat} {words : List RawWord} (ht : s.gotWord left words = some t) :
    BusFrame s t := by
  rcases lt_or_ge 1 left with hmore | hlast
  · rw [State.gotWord_more _ _ _ hmore] at ht
    cases ht
    exact busFrame_askExchange ..
  · rw [State.gotWord_last _ _ _ hlast] at ht
    obtain ⟨u, hu, rfl⟩ := Option.map_eq_some_iff.1 ht
    exact ((busFrame_releaseCs s).trans (State.routeAll_frame hu)).trans (busFrame_respond ..)

theorem State.gotAxisWord_frame {a : Axis} {raw : RawWord} (ht : s.gotAxisWord a raw = some t) : BusFrame s t := by
  by_cases ha : a = .t
  · subst ha
    cases ht
    exact busFrame_respond ..
  · obtain ⟨z, hz⟩ := s.zeroOffset_of_ne_t ha
    rw [State.gotAxisWord_of_offset hz] at ht
    obtain ⟨v, -, rfl⟩ := Option.map_eq_some_iff.1 ht
    exact busFrame_respond ..

/-- Whatever byte comes, in whatever phase. -/
theorem State.deliver_frame {b : Byte} (ht : s.deliver b = some t) : BusFrame s t := by
  cases hp : s.phase with
  | idle => rw [s.deliver_idle b hp] at ht; cases ht; exact .refl _
  | countHi => rw [s.deliver_countHi b hp] at ht; cases ht; exact busFrame_askReg ..
  | countLo hi => rw [s.deliver_countLo b hi hp] at ht; cases ht; exact s.gotCount_frame _
  | burstCmd left => rw [s.deliver_burstCmd b left hp] at ht; cases ht; exact busFrame_askExchange ..
  | burstLsb left words => rw [s.deliver_burstLsb b left words hp] at ht; cases ht; exact busFrame_askExchange ..
  | burstMsb left words lsb => rw [s.deliver_burstMsb b left words lsb hp] at ht; exact State.gotWord_frame ht
  | axisHi a => rw [s.deliver_axisHi b a hp] at ht; cases ht; exact busFrame_askReg ..
  | axisLo a hi => rw [s.deliver_axisLo b a hi hp] at ht; exact State.gotAxisWord_frame ht

theorem State.feed_frame {bs : List Byte} (ht : State.feed bs s = .next t) : BusFrame s t := by
  induction bs generalizing s with
  | nil => cases ht; exact .refl _
  | cons b bs ih =>
    by_cases hp : s.phase = .idle
    · rw [State.feed_idle _ _ hp] at ht
      cases ht
      exact .refl _
    · rw [State.feed_cons _ _ _ hp] at ht
      cases hd : (s.setAnswers bs).deliver b with
      | none => rw [hd] at ht; cases ht
      | some u =>
        rw [hd] at ht
        exact ((busFrame_setAnswers s bs).trans (State.deliver_frame hd)).trans (ih ht)

theorem exec_fdrain_frame (ht : exec .fdrain s = .next t) : BusFrame s t :=
  (busFrame_askReg ..).trans (State.feed_frame ht)

theorem exec_rdaxis_frame {a : Axis} (ht : exec (.rdaxis a) s = .next t) : BusFrame s t :=
  (busFrame_askReg ..).trans (State.feed_frame ht)

end

/-- Settles O43: the frame of every byte holds over all the bytes that come. -/
theorem fdrainNeverWritesHeadsOrTemperature : Obligations.FdrainNeverWritesHeadsOrTemperature :=
  fun _ _ ht => exec_fdrain_frame ht

theorem State.answerQueue_next {s t : State} {a : Axis} {r : Option (Status × List Sample × Queue)}
    (ht : s.answerQueue a r = .next t) : ∃ q st beats, t = (s.setQueue a q).respond st beats := by
  cases r with
  | none => cases ht
  | some r => cases ht; exact ⟨_, _, _, rfl⟩

/-- A command that neither uses the bus nor writes the configuration replaces at most one queue and responds. -/
theorem exec_local_cases {i : Instr} {s t : State} (hzero : ∀ r v, i ≠ .wrcfgZero r v)
    (hrange : ∀ v, i ≠ .wrcfgRange v) (hfdrain : i ≠ .fdrain) (hrdaxis : ∀ a, i ≠ .rdaxis a)
    (ht : exec i s = .next t) : ∃ a q st beats, t = (s.setQueue a q).respond st beats := by
  have hkeep (st : Status) (beats : List Sample) : ∃ a q st' beats',
      s.respond st beats = (s.setQueue a q).respond st' beats' :=
    ⟨.x, s.queue .x, st, beats, by rw [State.setQueue_self]⟩
  have hqueue (a : Axis) (hi : i = .pop a ∨ i = .size a ∨ i = .qdrain a ∨ i = .qreset a ∨ i = .front a ∨
      i = .back a ∨ ∃ v, i = .push a v) : ∃ a q st beats, t = (s.setQueue a q).respond st beats := by
    obtain ⟨f, hf⟩ := exec_queueCommand hi
    exact ⟨a, State.answerQueue_next ((hf s).symm.trans ht)⟩
  cases i with
  | dec15 w => cases ht; exact hkeep _ _
  | dec13 w => cases ht; exact hkeep _ _
  | sgn15 w => cases ht; exact hkeep _ _
  | sgn13 w => cases ht; exact hkeep _ _
  | tag w => cases ht; exact hkeep _ _
  | rdcfg r => cases ht; exact hkeep _ _
  | scale a neg m =>
    change execScale a neg m s = .next t at ht
    by_cases ha : a = .t
    · subst ha
      cases ht
      exact hkeep _ _
    · obtain ⟨z, hz⟩ := s.zeroOffset_of_ne_t ha
      rw [execScale_of_offset hz] at ht
      cases hv : scaleSample (neg, m) s.range z with
      | none => rw [hv] at ht; cases ht
      | some v => rw [hv] at ht; cases ht; exact hkeep _ _
  | push a v => exact hqueue a (by simp)
  | pop a => exact hqueue a (by simp)
  | size a => exact hqueue a (by simp)
  | qdrain a => exact hqueue a (by simp)
  | qreset a => exact hqueue a (by simp)
  | front a => exact hqueue a (by simp)
  | back a => exact hqueue a (by simp)
  | fdrain => exact absurd rfl hfdrain
  | rdaxis a => exact absurd rfl (hrdaxis a)
  | wrcfgZero r v => exact absurd rfl (hzero r v)
  | wrcfgRange v => exact absurd rfl (hrange v)

/-- Settles O52: commands on the bus keep the configuration byte by byte, the others replace a queue at most. -/
theorem onlyWrcfgWritesConfiguration : Obligations.OnlyWrcfgWritesConfiguration := by
  intro i s t hzero hrange ht
  by_cases hfdrain : i = .fdrain
  · subst hfdrain
    obtain ⟨-, -, hconfig⟩ := exec_fdrain_frame ht
    exact hconfig
  · by_cases hrdaxis : ∃ a, i = .rdaxis a
    · obtain ⟨a, rfl⟩ := hrdaxis
      obtain ⟨-, -, hconfig⟩ := exec_rdaxis_frame ht
      exact hconfig
    · obtain ⟨a, q, st, beats, rfl⟩ :=
        exec_local_cases hzero hrange hfdrain (fun a ha => hrdaxis ⟨a, ha⟩) ht
      exact sameConfig_setQueue_respond s a q st beats

end Sys2Proof.Machine

/-! PROOFS. Routing the words of a burst (spec/42_drainer.md R122, R123). -/

namespace Sys2Proof.Machine

/-- A register word is its two bytes, the high one first (spec/20_memory.md R45). -/
theorem registerWord_eq_append (hi lo : Byte) : registerWord hi lo = hi ++ lo := by
  apply BitVec.eq_of_getLsbD_eq
  intro i hi
  simp only [registerWord, BitVec.getLsbD_or, BitVec.getLsbD_shiftLeft, BitVec.getLsbD_setWidth,
    BitVec.getLsbD_append]
  interval_cases i <;> simp

/-- The bytes of a FIFO word, put together again (R44). -/
theorem fifoWord_bytes (w : RawWord) : fifoWord (w.extractLsb' 0 8) (w.extractLsb' 8 8) = w := by
  apply BitVec.eq_of_getLsbD_eq
  intro i hi
  simp only [fifoWord, BitVec.getLsbD_or, BitVec.getLsbD_shiftLeft, BitVec.getLsbD_setWidth,
    BitVec.getLsbD_extractLsb']
  interval_cases i <;> simp

/-- A Temperature word is discarded (R123). -/
theorem State.routeWord_t (s : State) {w : RawWord} (hw : axisTag w = .t) : s.routeWord w = some s := by
  simp only [State.routeWord, hw, State.zeroOffset]

/-- With RANGE 0 a word of X, Y or Z cannot be scaled (log 14). -/
theorem State.routeWord_range_zero {s : State} (hrange : s.range = 0) {w : RawWord} (hw : axisTag w ≠ .t) :
    s.routeWord w = none := by
  obtain ⟨z, hz⟩ := s.zeroOffset_of_ne_t hw
  simp only [State.routeWord, hz, hrange, scaleSample_range_zero]

theorem State.routeAll_range_zero {s : State} (hrange : s.range = 0) {ws : List RawWord}
    (hws : ∃ w ∈ ws, axisTag w ≠ .t) : s.routeAll ws = none := by
  induction ws with
  | nil => simp at hws
  | cons w ws ih =>
    rw [State.routeAll_cons]
    by_cases hw : axisTag w = .t
    · rw [s.routeWord_t hw]
      exact ih (by simpa [hw] using hws)
    · rw [State.routeWord_range_zero hrange hw]
      rfl

/-- Each queue of X, Y and Z has had its axis's samples of `ws` pushed; all else is as it was (R122, R128). -/
def State.routed (s : State) (ws : List RawWord) : State :=
  { s with
    queueX := s.queueX.pushAll (samplesFor s .x ws)
    queueY := s.queueY.pushAll (samplesFor s .y ws)
    queueZ := s.queueZ.pushAll (samplesFor s .z ws) }

/-- Temperature words carry no samples (R123). -/
theorem samplesFor_t (s : State) (ws : List RawWord) : samplesFor s .t ws = [] := by
  simp [samplesFor, sampleOf]

theorem State.routed_queue (s : State) (ws : List RawWord) (a : Axis) :
    (s.routed ws).queue a = (s.queue a).pushAll (samplesFor s a ws) := by
  cases a with
  | t => rw [samplesFor_t]; rfl
  | _ => rfl

/-- Routing some words and then others is routing all of them. -/
theorem State.routed_routed (s : State) (us ws : List RawWord) : (s.routed us).routed ws = s.routed (us ++ ws) := by
  have happend (a : Axis) : samplesFor s a (us ++ ws) = samplesFor s a us ++ samplesFor s a ws :=
    List.filterMap_append
  simp only [State.routed, happend, Queue.pushAll, List.foldl_append]
  rfl

theorem State.routeWord_eq_routed {s : State} (hrange : s.range ≠ 0) (w : RawWord) :
    s.routeWord w = some (s.routed [w]) := by
  cases hw : axisTag w with
  | t => rw [s.routeWord_t hw]; simp [State.routed, samplesFor, hw, Queue.pushAll]
  | x | y | z =>
    simp [State.routeWord, hw, State.zeroOffset, scaleSample_of_range_ne hrange, State.routed, samplesFor, sampleOf,
      Queue.pushAll, State.setQueue, State.queue]

/-- With a range that scales, routing succeeds and pushes every sample in input order. -/
theorem State.routeAll_eq_routed {s : State} (hrange : s.range ≠ 0) (ws : List RawWord) :
    s.routeAll ws = some (s.routed ws) := by
  induction ws generalizing s with
  | nil => rfl
  | cons w ws ih =>
    have hnext : (s.routed [w]).routeAll ws = some ((s.routed [w]).routed ws) := ih hrange
    rw [State.routeAll_cons, State.routeWord_eq_routed hrange, Option.bind_some, hnext, State.routed_routed,
      List.singleton_append]

end Sys2Proof.Machine

/-! PROOFS. What a command on the bus leaves as it was while it waits (spec/20_memory.md R48). -/

namespace Sys2Proof.Machine

/-- No response yet, and the queues, the configuration and the host's side as they were. -/
def WaitFrame (s t : State) : Prop :=
  t.responses = s.responses ∧ SameQueues s t ∧ SameConfig s t ∧ SameHost s t

theorem WaitFrame.trans {s t u : State} (hst : WaitFrame s t) (htu : WaitFrame t u) : WaitFrame s u := by
  obtain ⟨hresp, hqueues, ⟨hx, hy, hz, hr⟩, hcommands, hreset⟩ := hst
  obtain ⟨hresp', hqueues', ⟨hx', hy', hz', hr'⟩, hcommands', hreset'⟩ := htu
  exact ⟨hresp'.trans hresp, fun a => (hqueues' a).trans (hqueues a),
    ⟨hx'.trans hx, hy'.trans hy, hz'.trans hz, hr'.trans hr⟩, hcommands'.trans hcommands, hreset'.trans hreset⟩

theorem waitFrame_setAnswers (s : State) (bs : List Byte) : WaitFrame s (s.setAnswers bs) :=
  ⟨rfl, fun _ => State.setAnswers_queue .., ⟨rfl, rfl, rfl, rfl⟩, rfl, rfl⟩

theorem waitFrame_askReg (s : State) (addr : Byte) (p : Phase) : WaitFrame s (s.askReg addr p) :=
  ⟨rfl, fun _ => State.askReg_queue .., ⟨rfl, rfl, rfl, rfl⟩, rfl, rfl⟩

theorem waitFrame_askExchange (s : State) (tx : Byte) (p : Phase) : WaitFrame s (s.askExchange tx p) :=
  ⟨rfl, fun _ => State.askExchange_queue .., ⟨rfl, rfl, rfl, rfl⟩, rfl, rfl⟩

theorem waitFrame_assertCs (s : State) : WaitFrame s s.assertCs :=
  ⟨rfl, fun _ => State.assertCs_queue .., ⟨rfl, rfl, rfl, rfl⟩, rfl, rfl⟩

theorem waitFrame_releaseCs (s : State) : WaitFrame s s.releaseCs :=
  ⟨rfl, fun _ => State.releaseCs_queue .., ⟨rfl, rfl, rfl, rfl⟩, rfl, rfl⟩

section
variable {s t : State}

/-- The same configuration scales alike. -/
theorem SameConfig.zeroOffset_eq (h : SameConfig s t) (a : Axis) : t.zeroOffset a = s.zeroOffset a := by
  obtain ⟨hx, hy, hz, -⟩ := h
  cases a <;> simp only [State.zeroOffset, hx, hy, hz]

theorem SameConfig.range_eq (h : SameConfig s t) : t.range = s.range := by
  obtain ⟨-, -, -, hr⟩ := h
  exact hr

theorem SameConfig.samplesFor_eq (h : SameConfig s t) (a : Axis) (ws : List RawWord) :
    samplesFor t a ws = samplesFor s a ws := by
  obtain ⟨hx, hy, hz, hr⟩ := h
  cases a <;> simp only [samplesFor, sampleOf, hx, hy, hz, hr]

/-- A command that has waited ends: its response comes after those given before it. -/
theorem WaitFrame.answered (h : WaitFrame s t) (st : Status) (beats : List Sample) (rest : List Byte) :
    Answered st beats s ((t.respond st beats).setAnswers rest) :=
  ⟨congrArg _ h.1, rfl, rfl⟩

end

end Sys2Proof.Machine

/-! PROOFS. FDRAIN over the bytes the peer holds (spec/42_drainer.md R120, R121, R126). -/

namespace Sys2Proof.Machine

/-- In a burst, after `n` more data exchanges, waiting in phase `p`. -/
def State.exchanged (s : State) (n : Nat) (p : Phase) : State :=
  { s with busy := true, phase := p, trace := List.replicate n (.exchange 0x00) ++ s.trace }

theorem waitFrame_exchanged (s : State) (n : Nat) (p : Phase) : WaitFrame s (s.exchanged n p) :=
  ⟨rfl, fun a => by cases a <;> rfl, ⟨rfl, rfl, rfl, rfl⟩, rfl, rfl⟩

theorem State.exchanged_askExchange (s : State) (n : Nat) (p p' : Phase) :
    (s.exchanged n p).askExchange 0x00 p' = s.exchanged (n + 1) p' := rfl

theorem State.deliver_exchanged_lsb (s : State) (n left : Nat) (words : List RawWord) (b : Byte) :
    (s.exchanged n (.burstLsb left words)).deliver b = some (s.exchanged (n + 1) (.burstMsb left words b)) := rfl

theorem State.deliver_exchanged_msb (s : State) (n left : Nat) (words : List RawWord) (lsb b : Byte)
    (hleft : 1 < left) :
    (s.exchanged n (.burstMsb left words lsb)).deliver b =
      some (s.exchanged (n + 1) (.burstLsb (left - 1) (fifoWord lsb b :: words))) :=
  ((State.deliver_burstMsb _ _ _ _ _ rfl).trans (State.gotWord_more _ _ _ hleft)).trans
    (congrArg some (s.exchanged_askExchange ..))

theorem State.deliver_exchanged_last (s : State) (n : Nat) (words : List RawWord) (lsb b : Byte) :
    (s.exchanged n (.burstMsb 1 words lsb)).deliver b =
      ((s.exchanged n (.burstMsb 1 words lsb)).releaseCs.routeAll (words.reverse ++ [fifoWord lsb b])).map
        (·.respond .ok []) := by
  rw [State.deliver_burstMsb _ _ _ _ _ rfl, State.gotWord_last _ _ _ (Nat.le_refl 1), List.reverse_cons]

/-- The burst is over and chip-select released: route the words, respond, and leave `rest` to the peer; or stop by name
when a word cannot be scaled (log 14). -/
def State.finishBurst (s : State) (words : List RawWord) (rest : List Byte) : Host.Outcome State Fault Refusal :=
  (s.routeAll words).elim (.refused .rangeZero) fun t => .next ((t.respond .ok []).setAnswers rest)

/-- With all its bytes at hand a burst reads its words in order, two exchanges each, and finishes. -/
theorem State.resume_burst (s : State) (n : Nat) (got : List RawWord) (w : RawWord) (ws : List RawWord)
    (rest : List Byte) :
    ∃ p, ((s.exchanged n (.burstLsb (ws.length + 1) got)).setAnswers
        ((w :: ws).flatMap wordBytes ++ rest)).resume =
      (s.exchanged (n + 2 * ws.length + 1) p).releaseCs.finishBurst (got.reverse ++ w :: ws) rest := by
  induction ws generalizing n got w with
  | nil =>
    refine ⟨.burstMsb 1 got (w.extractLsb' 0 8), ?_⟩
    have hbytes : [w].flatMap wordBytes ++ rest = w.extractLsb' 0 8 :: w.extractLsb' 8 8 :: rest := by
      simp [wordBytes]
    rw [hbytes, State.resume_of_deliver _ Phase.noConfusion (s.deliver_exchanged_lsb ..),
      State.resume_setAnswers_cons _ _ _ Phase.noConfusion]
    simp only [List.length_nil, Nat.zero_add, Nat.mul_zero, Nat.add_zero, State.deliver_exchanged_last,
      fifoWord_bytes, State.finishBurst]
    cases ((s.exchanged (n + 1) (.burstMsb 1 got (w.extractLsb' 0 8))).releaseCs.routeAll
        (got.reverse ++ [w])) with
    | none => rfl
    | some t => exact State.resume_idle _ rfl
  | cons w' ws ih =>
    obtain ⟨p, hp⟩ := ih (n + 2) (w :: got) w'
    refine ⟨p, ?_⟩
    have hbytes : (w :: w' :: ws).flatMap wordBytes ++ rest =
        w.extractLsb' 0 8 :: w.extractLsb' 8 8 :: ((w' :: ws).flatMap wordBytes ++ rest) := by
      simp [wordBytes]
    have hmsb := s.deliver_exchanged_msb (n + 1) ((w' :: ws).length + 1) got (w.extractLsb' 0 8)
      (w.extractLsb' 8 8) (by simp)
    rw [hbytes, State.resume_of_deliver _ Phase.noConfusion (s.deliver_exchanged_lsb ..),
      State.resume_of_deliver _ Phase.noConfusion hmsb, fifoWord_bytes]
    refine hp.trans ?_
    have hcount : n + 2 + 2 * ws.length + 1 = n + 2 * (w' :: ws).length + 1 := by simp; omega
    rw [hcount, List.reverse_cons, List.append_assoc, List.singleton_append]

/-- FDRAIN has read a positive count, asserted chip-select and sent the command byte. -/
def State.burstBegun (s : State) (hi : Byte) (left : Nat) : State :=
  (((s.askReg Config.addrFifoEntriesH .countHi).askReg Config.addrFifoEntriesL (.countLo hi)).assertCs).askExchange
    Config.cmdFifoRead (.burstCmd left)

theorem waitFrame_burstBegun (s : State) (hi : Byte) (left : Nat) : WaitFrame s (s.burstBegun hi left) :=
  (((waitFrame_askReg ..).trans (waitFrame_askReg ..)).trans (waitFrame_assertCs ..)).trans (waitFrame_askExchange ..)

section Fdrain
variable {s : State}

theorem exec_fdrain_eq {bs : List Byte} (hbs : s.answers = bs) :
    exec .fdrain s = ((s.askReg Config.addrFifoEntriesH .countHi).setAnswers bs).resume := by
  rw [State.setAnswers_eq_self (s := s.askReg Config.addrFifoEntriesH .countHi) hbs]; rfl

/-- The two count bytes of a burst (R120, R121). -/
theorem exec_fdrain_burst {hi lo : Byte} {bs : List Byte} (hbs : s.answers = hi :: lo :: bs)
    (hcount : 0 < sval (hi ++ lo : BitVec 16) 15) :
    exec .fdrain s = ((s.burstBegun hi (sval (hi ++ lo : BitVec 16) 15).toNat).setAnswers bs).resume := by
  rw [exec_fdrain_eq hbs, State.resume_of_deliver _ Phase.noConfusion (State.deliver_countHi _ _ rfl),
    State.resume_of_deliver _ Phase.noConfusion (State.deliver_countLo _ _ _ rfl), registerWord_eq_append,
    State.gotCount_burst _ _ hcount]
  rfl

/-- FDRAIN with a whole burst of `ws` at hand: `t` is the state in which it routes them, and the bus operations are
those of R128. -/
theorem exec_fdrain_complete {hi lo x : Byte} {ws : List RawWord} {rest : List Byte} (hws : ws ≠ [])
    (hcount : sval (hi ++ lo : BitVec 16) 15 = ws.length)
    (hbs : s.answers = hi :: lo :: x :: (ws.flatMap wordBytes ++ rest)) :
    ∃ t, exec .fdrain s = t.finishBurst ws rest ∧ WaitFrame s t ∧ t.csAsserted = false ∧
      t.trace = .csDeassert :: (List.replicate (2 * ws.length) (.exchange 0x00) ++
        .exchange Config.cmdFifoRead :: .csAssert ::
        .regRead Config.addrFifoEntriesL :: .regRead Config.addrFifoEntriesH :: s.trace) := by
  obtain ⟨w, ws, rfl⟩ := List.exists_cons_of_ne_nil hws
  have hcmd : (s.burstBegun hi (ws.length + 1)).deliver x =
      some ((s.burstBegun hi (ws.length + 1)).exchanged 1 (.burstLsb (ws.length + 1) [])) := rfl
  obtain ⟨p, hp⟩ := (s.burstBegun hi (ws.length + 1)).resume_burst 1 [] w ws rest
  have hlength : 1 + 2 * ws.length + 1 = 2 * (w :: ws).length := by simp; omega
  rw [hlength] at hp
  have hexec : exec .fdrain s =
      ((s.burstBegun hi (ws.length + 1)).exchanged (2 * (w :: ws).length) p).releaseCs.finishBurst (w :: ws) rest := by
    rw [exec_fdrain_burst hbs (by rw [hcount]; simp), hcount, Int.toNat_natCast, List.length_cons,
      State.resume_of_deliver _ Phase.noConfusion hcmd]
    exact hp
  exact ⟨_, hexec, ((waitFrame_burstBegun ..).trans (waitFrame_exchanged ..)).trans (waitFrame_releaseCs ..), rfl, rfl⟩

end Fdrain

/-- Settles O42: a range that scales routes every word, so the burst finishes with a response. -/
theorem fdrainDrainsTheBurst : Obligations.FdrainDrainsTheBurst := by
  intro s hi lo x ws rest hrange hlength hcount hbs
  obtain ⟨t, ht, hwait, hcs, htrace⟩ := exec_fdrain_complete (List.ne_nil_of_length_pos hlength) hcount hbs
  obtain ⟨hresp, hqueues, hconfig, hhost⟩ := hwait
  have htrange : t.range ≠ 0 := by rwa [hconfig.range_eq]
  rw [ht, State.finishBurst, State.routeAll_eq_routed htrange]
  refine ⟨_, rfl, ⟨congrArg _ hresp, rfl, rfl⟩, fun a => ?_, hconfig, hhost, hcs, rfl, htrace⟩
  rw [State.setAnswers_queue, State.respond_queue, State.routed_queue, hqueues, hconfig.samplesFor_eq]

/-! A burst without all its bytes (spec/20_memory.md R48). -/

/-- The bytes a burst still needs (R121). -/
def Phase.missing : Phase → Nat
  | .burstCmd left => 1 + 2 * left
  | .burstLsb left _ => 2 * left
  | .burstMsb left _ _ => 2 * left - 1
  | .idle | .countHi | .countLo _ | .axisHi _ | .axisLo _ _ => 0

/-- A byte of a burst that is not its last one is answered by an exchange and nothing else. -/
theorem State.deliver_burst {s : State} (hmissing : 1 < s.phase.missing) (b : Byte) :
    ∃ p, s.deliver b = some (s.askExchange 0x00 p) ∧ p.missing + 1 = s.phase.missing := by
  cases hp : s.phase with
  | burstCmd left => exact ⟨_, s.deliver_burstCmd b left hp, Nat.add_comm ..⟩
  | burstLsb left words =>
    simp only [hp, Phase.missing] at hmissing
    exact ⟨_, s.deliver_burstLsb b left words hp, by simp only [Phase.missing]; omega⟩
  | burstMsb left words lsb =>
    simp only [hp, Phase.missing] at hmissing
    rw [s.deliver_burstMsb b left words lsb hp]
    exact ⟨_, State.gotWord_more _ _ _ (by omega), by simp only [Phase.missing]; omega⟩
  | _ => simp [hp, Phase.missing] at hmissing

/-- A burst that runs out of bytes waits, with chip-select as it was. -/
theorem State.resume_burst_waits {s : State} (hbusy : s.busy = true) {bs : List Byte}
    (hshort : bs.length < s.phase.missing) :
    ∃ t, (s.setAnswers bs).resume = .next t ∧ WaitFrame s t ∧ t.busy = true ∧ t.answers = [] ∧
      t.csAsserted = s.csAsserted := by
  induction bs generalizing s with
  | nil => exact ⟨_, s.resume_setAnswers_nil, waitFrame_setAnswers .., hbusy, rfl, rfl⟩
  | cons b bs ih =>
    have hlength : bs.length + 1 < s.phase.missing := hshort
    obtain ⟨p, hd, hmissing⟩ := s.deliver_burst (by omega) b
    obtain ⟨t, ht, hframe, htbusy, htanswers, htcs⟩ := ih (s := s.askExchange 0x00 p) rfl
      (show bs.length < p.missing by omega)
    have hphase : s.phase ≠ .idle := fun hp => by simp [hp, Phase.missing] at hlength
    exact ⟨t, (State.resume_of_deliver bs hphase hd).trans ht, (waitFrame_askExchange ..).trans hframe, htbusy,
      htanswers, htcs⟩

/-- A state that waits steps to itself (log 4). -/
theorem step_of_waiting {s : State} (hreset : s.resetIn = false) (hbusy : s.busy = true) (hanswers : s.answers = []) :
    step s = .next s := by
  rw [step_of_busy hreset hbusy, State.resume, hanswers, State.feed_nil]

/-- Settles O44: FDRAIN waits for a count byte, or for a byte of the burst with chip-select asserted. -/
theorem fdrainWaitsForMissingAnswers : Obligations.FdrainWaitsForMissingAnswers := by
  intro s hcs hmissing
  suffices hwait : ∃ t, exec .fdrain s = .next t ∧ WaitFrame s t ∧ t.busy = true ∧ t.answers = [] ∧
      (t.csAsserted = true ↔ 2 ≤ s.answers.length) by
    obtain ⟨t, ht, ⟨hresp, hqueues, hconfig, hhost⟩, hbusy, hanswers, htcs⟩ := hwait
    exact ⟨t, ht, hbusy, hresp, hqueues, hconfig, hhost, hanswers, htcs,
      fun hreset => step_of_waiting (hhost.2.trans hreset) hbusy hanswers⟩
  rcases hmissing with hshort | ⟨hi, lo, rest, hbs, hpos, hshort⟩
  · have hreleased : s.csAsserted = true ↔ 2 ≤ s.answers.length := by simp [hcs]; omega
    match hbs : s.answers with
    | [] =>
      exact ⟨_, exec_fdrain_eq hbs, (waitFrame_askReg ..).trans (waitFrame_setAnswers ..), rfl, rfl,
        hbs ▸ hreleased⟩
    | [hi] =>
      rw [exec_fdrain_eq hbs, State.resume_of_deliver _ Phase.noConfusion (State.deliver_countHi _ _ rfl)]
      exact ⟨_, rfl, ((waitFrame_askReg ..).trans (waitFrame_askReg ..)).trans (waitFrame_setAnswers ..), rfl, rfl,
        hbs ▸ hreleased⟩
    | _ :: _ :: _ => rw [hbs] at hshort; simp at hshort
  · obtain ⟨t, ht, hframe, hbusy, hanswers, htcs⟩ := State.resume_burst_waits
      (s := s.burstBegun hi (sval (hi ++ lo : BitVec 16) 15).toNat) rfl (bs := rest)
      (show rest.length < 1 + 2 * (sval (hi ++ lo : BitVec 16) 15).toNat by omega)
    exact ⟨t, (exec_fdrain_burst hbs hpos).trans ht, (waitFrame_burstBegun ..).trans hframe, hbusy, hanswers,
      iff_of_true htcs (by simp [hbs])⟩

end Sys2Proof.Machine

/-! PROOFS. RDAXIS over two answers (spec/43_session.md R136), and scaling with RANGE 0 (log 14). -/

namespace Sys2Proof.Machine

/-- RDAXIS with its word at hand: `t` is the state in which it has read both its registers. -/
theorem exec_rdaxis_complete {s : State} {hi lo : Byte} {rest : List Byte} (a : Axis)
    (hbs : s.answers = hi :: lo :: rest) :
    ∃ t, exec (.rdaxis a) s =
        (t.gotAxisWord a (hi ++ lo)).elim (.refused .rangeZero) (fun u => (u.setAnswers rest).resume) ∧
      WaitFrame s t ∧ t.csAsserted = s.csAsserted ∧
      t.trace = .regRead (Config.addrDataL a) :: .regRead (Config.addrDataH a) :: s.trace := by
  refine ⟨(s.askReg (Config.addrDataH a) (.axisHi a)).askReg (Config.addrDataL a) (.axisLo a hi), ?_,
    (waitFrame_askReg ..).trans (waitFrame_askReg ..), rfl, rfl⟩
  have hexec : exec (.rdaxis a) s =
      ((s.askReg (Config.addrDataH a) (.axisHi a)).setAnswers (hi :: lo :: rest)).resume := by
    rw [State.setAnswers_eq_self (s := s.askReg (Config.addrDataH a) (.axisHi a)) hbs]; rfl
  rw [hexec, State.resume_of_deliver _ Phase.noConfusion (State.deliver_axisHi _ _ _ rfl),
    State.resume_setAnswers_cons _ _ _ Phase.noConfusion, State.deliver_axisLo _ _ _ _ rfl, registerWord_eq_append]

theorem decode_rdaxisWord (a : Axis) : decode (cmdWord 0x11 a.code 0) = .ok (.rdaxis a) := by
  refine (decode_rdaxis _ (opField_cmdWord ..)).trans ((decodeQ_ok ..).2 ⟨dataField_cmdWord .., ?_⟩)
  rw [axField_cmdWord, Axis.ofCode_code]

/-- Settles O47: the word of the two answers is scaled for an axis with an offset, and answered raw for T. -/
theorem rdaxisAnswersTheSample : Obligations.RdaxisAnswersTheSample := by
  intro a s hi lo rest
  refine ⟨decode_rdaxisWord a, fun hbs => ?_⟩
  obtain ⟨t, ht, hwait, hcs, htrace⟩ := exec_rdaxis_complete a hbs
  obtain ⟨-, hqueues, hconfig, hhost⟩ := id hwait
  rw [ht]
  refine ⟨fun z hz hrange => ?_, fun ha => ?_⟩
  · have hoffset : t.zeroOffset a = some z := by rwa [hconfig.zeroOffset_eq, State.zeroOffset_eq_some_iff]
    rw [State.gotAxisWord_of_offset hoffset, hconfig.range_eq, scaleSample_of_range_ne hrange, Option.map_some,
      Option.elim_some, State.resume_idle _ rfl]
    exact ⟨_, rfl, hwait.answered .., hqueues, hconfig, hhost, hcs, rfl, htrace⟩
  · subst ha
    rw [State.gotAxisWord_t, Option.elim_some, State.resume_idle _ rfl]
    exact ⟨_, rfl, hwait.answered .., hqueues, hconfig, hhost, hcs, rfl, htrace⟩

/-- Settles O28: each of the three commands comes to `scaleSample`, which has no value at range 0. -/
theorem scalingByRangeZeroStops : Obligations.ScalingByRangeZeroStops := by
  intro s hrange
  refine ⟨fun a neg m ha => ?_, fun a hi lo rest ha hbs => ?_, fun hi lo x ws rest hws hcount hbs => ?_⟩
  · obtain ⟨z, hz⟩ := s.zeroOffset_of_ne_t ha
    have hexec : exec (.scale a neg m) s = execScale a neg m s := rfl
    rw [hexec, execScale_of_offset hz, hrange, scaleSample_range_zero]
    rfl
  · obtain ⟨t, ht, ⟨-, -, hconfig, -⟩, -, -⟩ := exec_rdaxis_complete a hbs
    obtain ⟨z, hz⟩ := t.zeroOffset_of_ne_t ha
    rw [ht, State.gotAxisWord_of_offset hz, hconfig.range_eq, hrange, scaleSample_range_zero]
    rfl
  · have hne : ws ≠ [] := by
      rintro rfl
      simp at hws
    obtain ⟨t, ht, ⟨-, -, hconfig, -⟩, -, -⟩ := exec_fdrain_complete hne hcount hbs
    rw [ht, State.finishBurst, State.routeAll_range_zero (hconfig.range_eq.trans hrange) hws]
    rfl

end Sys2Proof.Machine

/-! PROOFS. Backing arrays in canonical form (spec/20_memory.md R40), and RDCFG (spec/43_session.md R139). -/

namespace Sys2Proof.Machine

/-- In canonical form the first index of an array is the lowest at which it holds a value. -/
theorem Memory.le_of_read_isSome {lo j : Nat} {v : Sample} {rest : Memory} {i : Nat}
    (hm : Memory.wfFrom lo ((j, v) :: rest) = true) (hi : (Memory.read ((j, v) :: rest) i).isSome = true) :
    j ≤ i := by
  obtain ⟨-, hcapacity, hrest⟩ := (Memory.wfFrom_cons ..).1 hm
  have hstart : Memory.wfFrom j ((j, v) :: rest) = true :=
    (Memory.wfFrom_cons ..).2 ⟨Nat.le_refl j, hcapacity, hrest⟩
  by_contra hlt
  rw [Memory.read_of_wfFrom _ j i hstart (.inl (Nat.lt_of_not_le hlt))] at hi
  cases hi

@[simp] theorem Memory.read_head (j : Nat) (v : Sample) (rest : Memory) :
    Memory.read ((j, v) :: rest) j = some v := if_pos rfl

/-- Reading alike fixes the first entry, and below the next index both rests read as nothing. -/
theorem Memory.eq_of_read_eq {m m' : Memory} {lo lo' : Nat} (hm : Memory.wfFrom lo m = true)
    (hm' : Memory.wfFrom lo' m' = true) (hread : ∀ i, m.read i = m'.read i) : m = m' := by
  induction m generalizing m' lo lo' with
  | nil =>
    cases m' with
    | nil => rfl
    | cons p' rest' =>
      obtain ⟨j', v'⟩ := p'
      simpa using hread j'
  | cons p rest ih =>
    obtain ⟨j, v⟩ := p
    cases m' with
    | nil => simpa using hread j
    | cons p' rest' =>
      obtain ⟨j', v'⟩ := p'
      have hj : j = j' := Nat.le_antisymm
        (Memory.le_of_read_isSome hm (by rw [hread]; simp)) (Memory.le_of_read_isSome hm' (by rw [← hread]; simp))
      subst hj
      have hv : v = v' := by simpa using hread j
      obtain ⟨-, -, hrest⟩ := (Memory.wfFrom_cons ..).1 hm
      obtain ⟨-, -, hrest'⟩ := (Memory.wfFrom_cons ..).1 hm'
      have htail : rest = rest' := ih hrest hrest' fun i => by
        by_cases hi : i = j
        · rw [Memory.read_of_wfFrom _ _ i hrest (.inl (by omega)), Memory.read_of_wfFrom _ _ i hrest' (.inl (by omega))]
        · simpa [Memory.read_cons, hi] using hread i
      rw [hv, htail]

/-- Settles O40: both arrays are in canonical form from index 0 on. -/
theorem canonicalArraysThatReadAlikeAreEqual : Obligations.CanonicalArraysThatReadAlikeAreEqual :=
  fun _ _ hm hm' hread => Memory.eq_of_read_eq hm hm' hread

theorem decode_rdcfgWord (r : CfgReg) : decode (cmdWord 0x19 r.code 0) = .ok (.rdcfg r) := by
  refine (decode_rdcfg _ (opField_cmdWord ..)).trans ((decodeQ_ok ..).2 ⟨dataField_cmdWord .., ?_⟩)
  rw [axField_cmdWord, CfgReg.ofCode_code]

/-- RDCFG answers OK with the register and changes nothing (R139). -/
theorem exec_rdcfg_answers (r : CfgReg) (s : State) :
    ∃ t, exec (.rdcfg r) s = .next t ∧ Answered .ok [s.readCfg r] s t ∧ Unchanged s t :=
  ⟨_, rfl, answered_respond .., unchanged_respond ..⟩

/-- Settles O51: the four registers by number; RANGE's 8 bits are zero-extended. -/
theorem rdcfgAnswersTheRegister : Obligations.RdcfgAnswersTheRegister := by
  intro s
  obtain ⟨t, hexec, hanswer, hframe⟩ := exec_rdcfg_answers .range s
  refine ⟨decode_rdcfgWord .zx, decode_rdcfgWord .zy, decode_rdcfgWord .zz, decode_rdcfgWord .range,
    exec_rdcfg_answers .zx s, exec_rdcfg_answers .zy s, exec_rdcfg_answers .zz s,
    t, s.readCfg .range, hexec, hanswer, hframe, ?_⟩
  have hrange := s.range.isLt
  rw [State.readCfg, BitVec.toNat_setWidth]
  omega

end Sys2Proof.Machine

/-! PROOFS. A command ends with one response or waits for the bus (spec/30_encoding.md R60, R67; spec/20_memory.md
R48). -/

namespace Sys2Proof.Machine

/-- From `s` to `t` a command ended: one response more and `BUSY` 0 (R60, R67). -/
def CommandEnded (s t : State) : Prop := t.busy = false ∧ t.phase = .idle ∧ ∃ r, t.responses = r :: s.responses

/-- From `s` to `t` a command came to wait for the peer: no response and `BUSY` 1 (R48). -/
def CommandWaits (s t : State) : Prop := t.busy = true ∧ t.phase ≠ .idle ∧ t.responses = s.responses

section Progress
variable {s t : State}

theorem commandEnded_respond (h : t.responses = s.responses) (st : Status) (beats : List Sample) :
    CommandEnded s (t.respond st beats) :=
  ⟨rfl, rfl, ⟨st, beats⟩, congrArg _ h⟩

theorem commandWaits_askReg (s : State) (addr : Byte) {p : Phase} (hp : p ≠ .idle) :
    CommandWaits s (s.askReg addr p) := ⟨rfl, hp, rfl⟩

theorem commandWaits_askExchange (s : State) (tx : Byte) {p : Phase} (hp : p ≠ .idle) :
    CommandWaits s (s.askExchange tx p) := ⟨rfl, hp, rfl⟩

/-- Both speak of the earlier state by its responses only. -/
theorem CommandEnded.of_responses {u : State} (h : CommandEnded u t) (hu : u.responses = s.responses) :
    CommandEnded s t := by
  obtain ⟨hbusy, hphase, r, hr⟩ := h
  exact ⟨hbusy, hphase, r, hu ▸ hr⟩

theorem CommandWaits.of_responses {u : State} (h : CommandWaits u t) (hu : u.responses = s.responses) :
    CommandWaits s t := by
  obtain ⟨hbusy, hphase, hr⟩ := h
  exact ⟨hbusy, hphase, hr.trans hu⟩

theorem State.routeWord_responses {w : RawWord} (ht : s.routeWord w = some t) : t.responses = s.responses := by
  rcases s.routeWord_cases w with ⟨-, hr⟩ | ⟨z, -, -, hr⟩ | ⟨z, v, -, -, hr⟩
  · cases hr.symm.trans ht; rfl
  · cases hr.symm.trans ht
  · cases hr.symm.trans ht; simp

theorem State.routeAll_responses {ws : List RawWord} (ht : s.routeAll ws = some t) :
    t.responses = s.responses := by
  induction ws generalizing s with
  | nil => cases ht; rfl
  | cons w ws ih =>
    rw [State.routeAll_cons] at ht
    obtain ⟨u, hu, ht⟩ := Option.bind_eq_some_iff.1 ht
    exact (ih ht).trans (State.routeWord_responses hu)

theorem State.gotCount_progress (s : State) (n : Int) :
    CommandEnded s (s.gotCount n) ∨ CommandWaits s (s.gotCount n) := by
  rcases lt_or_ge 0 n with hpos | hneg
  · rw [State.gotCount_burst _ _ hpos]
    exact .inr (commandWaits_askExchange s.assertCs _ Phase.noConfusion)
  · rw [State.gotCount_done _ _ hneg]
    exact .inl (commandEnded_respond rfl _ _)

theorem State.gotWord_progress {left : Nat} {words : List RawWord} (ht : s.gotWord left words = some t) :
    CommandEnded s t ∨ CommandWaits s t := by
  rcases lt_or_ge 1 left with hmore | hlast
  · rw [State.gotWord_more _ _ _ hmore] at ht
    cases ht
    exact .inr (commandWaits_askExchange s _ Phase.noConfusion)
  · rw [State.gotWord_last _ _ _ hlast] at ht
    obtain ⟨u, hu, rfl⟩ := Option.map_eq_some_iff.1 ht
    exact .inl (commandEnded_respond (State.routeAll_responses hu) _ _)

theorem State.gotAxisWord_ends {a : Axis} {raw : RawWord} (ht : s.gotAxisWord a raw = some t) :
    CommandEnded s t := by
  by_cases ha : a = .t
  · subst ha
    cases ht
    exact commandEnded_respond rfl _ _
  · obtain ⟨z, hz⟩ := s.zeroOffset_of_ne_t ha
    rw [State.gotAxisWord_of_offset hz] at ht
    obtain ⟨v, -, rfl⟩ := Option.map_eq_some_iff.1 ht
    exact commandEnded_respond rfl _ _

/-- A byte ends the waiting command or leaves it waiting, in every phase (spec/42_drainer.md R126). -/
theorem State.deliver_progress {b : Byte} (hp : s.phase ≠ .idle) (ht : s.deliver b = some t) :
    CommandEnded s t ∨ CommandWaits s t := by
  cases hphase : s.phase with
  | idle => exact absurd hphase hp
  | countHi => cases (s.deliver_countHi b hphase).symm.trans ht; exact .inr (commandWaits_askReg s _ Phase.noConfusion)
  | countLo hi => cases (s.deliver_countLo b hi hphase).symm.trans ht; exact s.gotCount_progress _
  | burstCmd left =>
    cases (s.deliver_burstCmd b left hphase).symm.trans ht
    exact .inr (commandWaits_askExchange s _ Phase.noConfusion)
  | burstLsb left words =>
    cases (s.deliver_burstLsb b left words hphase).symm.trans ht
    exact .inr (commandWaits_askExchange s _ Phase.noConfusion)
  | burstMsb left words lsb =>
    exact State.gotWord_progress ((s.deliver_burstMsb b left words lsb hphase).symm.trans ht)
  | axisHi a => cases (s.deliver_axisHi b a hphase).symm.trans ht; exact .inr (commandWaits_askReg s _ Phase.noConfusion)
  | axisLo a hi => exact .inl (State.gotAxisWord_ends ((s.deliver_axisLo b a hi hphase).symm.trans ht))

/-- A waiting command goes on until it ends or has used up the answers (log 5). -/
theorem State.resume_progress {bs : List Byte} (hbusy : s.busy = true) (hp : s.phase ≠ .idle)
    (ht : (s.setAnswers bs).resume = .next t) : CommandEnded s t ∨ (CommandWaits s t ∧ t.answers = []) := by
  induction bs generalizing s with
  | nil => cases ht; exact .inr ⟨⟨hbusy, hp, rfl⟩, rfl⟩
  | cons b bs ih =>
    rw [State.resume_setAnswers_cons s b bs hp] at ht
    cases hd : s.deliver b with
    | none => rw [hd] at ht; cases ht
    | some u =>
      rw [hd] at ht
      rcases State.deliver_progress hp hd with ⟨hubusy, huphase, hresp⟩ | ⟨hubusy, huphase, hresp⟩
      · cases ((u.setAnswers bs).resume_idle huphase).symm.trans ht
        exact .inl ⟨hubusy, huphase, hresp⟩
      · exact (ih hubusy huphase ht).imp (·.of_responses hresp) (.imp_left (·.of_responses hresp))

/-- The two commands that ask the bus peer for bytes (spec/42_drainer.md R124; spec/43_session.md R136). -/
def UsesBus (i : Instr) : Prop := i = .fdrain ∨ ∃ a, i = .rdaxis a

/-- A command on the bus asks for a register and goes on with the answers at hand (R120, R136). -/
theorem UsesBus.exec_eq_resume {i : Instr} (hi : UsesBus i) :
    ∃ addr p, p ≠ .idle ∧ ∀ s, exec i s = (s.askReg addr p).resume := by
  rcases hi with rfl | ⟨a, rfl⟩
  · exact ⟨Config.addrFifoEntriesH, .countHi, Phase.noConfusion, fun _ => rfl⟩
  · exact ⟨Config.addrDataH a, .axisHi a, Phase.noConfusion, fun _ => rfl⟩

theorem UsesBus.exec_progress {i : Instr} (hi : UsesBus i) (ht : exec i s = .next t) :
    CommandEnded s t ∨ (CommandWaits s t ∧ t.answers = []) := by
  obtain ⟨addr, p, hp, hexec⟩ := hi.exec_eq_resume
  exact State.resume_progress (s := s.askReg addr p) rfl hp ((hexec s).symm.trans ht)

theorem exec_wrcfgZero_ends {r : CfgReg} {v : Sample} (ht : exec (.wrcfgZero r v) s = .next t) :
    CommandEnded s t := by
  by_cases hr : r = .range
  · subst hr
    cases ht
    exact commandEnded_respond rfl _ _
  · obtain ⟨hexec, -⟩ := exec_wrcfgZero_answers hr v s
    cases hexec.symm.trans ht
    exact commandEnded_respond (by simp) _ _

theorem exec_wrcfgRange_ends {v : Sample} (ht : exec (.wrcfgRange v) s = .next t) : CommandEnded s t := by
  simp only [exec, execWrcfgRange] at ht
  split at ht
  · cases ht; exact commandEnded_respond (by simp) _ _
  · cases ht; exact commandEnded_respond rfl _ _

/-- A command that does not use the bus ends in its own step. -/
theorem exec_ends {i : Instr} (hi : ¬ UsesBus i) (ht : exec i s = .next t) : CommandEnded s t := by
  by_cases hzero : ∃ r v, i = .wrcfgZero r v
  · obtain ⟨r, v, rfl⟩ := hzero
    exact exec_wrcfgZero_ends ht
  by_cases hrange : ∃ v, i = .wrcfgRange v
  · obtain ⟨v, rfl⟩ := hrange
    exact exec_wrcfgRange_ends ht
  obtain ⟨a, q, st, beats, rfl⟩ := exec_local_cases (fun r v h => hzero ⟨r, v, h⟩) (fun v h => hrange ⟨v, h⟩)
    (fun h => hi (.inl h)) (fun a h => hi (.inr ⟨a, h⟩)) ht
  exact commandEnded_respond (by simp) _ _

end Progress

/-- Settles O16: the two commands on the bus go on byte by byte, the others end in their own step. -/
theorem oneResponsePerCommand : Obligations.OneResponsePerCommand := by
  intro i s t ht
  by_cases hi : UsesBus i
  · refine (hi.exec_progress ht).imp_right ?_
    exact fun ⟨⟨hbusy, hphase, hresp⟩, hanswers⟩ => ⟨hbusy, hphase, hresp, hanswers, hi⟩
  · exact .inl (exec_ends hi ht)

theorem exec_rdaxis_eq {s : State} {bs : List Byte} (a : Axis) (hbs : s.answers = bs) :
    exec (.rdaxis a) s = ((s.askReg (Config.addrDataH a) (.axisHi a)).setAnswers bs).resume := by
  rw [State.setAnswers_eq_self (s := s.askReg (Config.addrDataH a) (.axisHi a)) hbs]; rfl

/-- Settles O48: RDAXIS waits for the high byte of its word, or for the low one. -/
theorem rdaxisWaitsForMissingAnswers : Obligations.RdaxisWaitsForMissingAnswers := by
  intro a s hshort
  suffices hwait : ∃ t, exec (.rdaxis a) s = .next t ∧ WaitFrame s t ∧ t.busy = true ∧ t.answers = [] ∧
      t.csAsserted = s.csAsserted by
    obtain ⟨t, ht, ⟨hresp, hqueues, hconfig, hhost⟩, hbusy, hanswers, hcs⟩ := hwait
    exact ⟨t, ht, hbusy, hresp, hqueues, hconfig, hhost, hcs, hanswers,
      fun hreset => step_of_waiting (hhost.2.trans hreset) hbusy hanswers⟩
  match hbs : s.answers with
  | [] => exact ⟨_, exec_rdaxis_eq a hbs, (waitFrame_askReg ..).trans (waitFrame_setAnswers ..), rfl, rfl, rfl⟩
  | [hi] =>
    rw [exec_rdaxis_eq a hbs, State.resume_of_deliver _ Phase.noConfusion (State.deliver_axisHi _ _ _ rfl)]
    exact ⟨_, rfl, ((waitFrame_askReg ..).trans (waitFrame_askReg ..)).trans (waitFrame_setAnswers ..), rfl, rfl,
      rfl⟩
  | _ :: _ :: _ => rw [hbs] at hshort; simp at hshort

end Sys2Proof.Machine

/-! PROOFS. The answers may come in pieces (spec/20_memory.md R47, R48; spec/42_drainer.md R126; log 4, 5). -/

namespace Sys2Proof.Machine

section Pieces
variable {s t : State}

/-- A command in progress, continued with the answers that come later. -/
theorem State.resume_append {xs : List Byte} (ys : List Byte) (ht : (s.setAnswers xs).resume = .next t) :
    (s.setAnswers (xs ++ ys)).resume = (t.setAnswers (t.answers ++ ys)).resume := by
  induction xs generalizing s with
  | nil => cases ht; rfl
  | cons b xs ih =>
    by_cases hp : s.phase = .idle
    · cases ((s.setAnswers (b :: xs)).resume_idle hp).symm.trans ht
      rfl
    · rw [State.resume_setAnswers_cons s b xs hp] at ht
      cases hd : s.deliver b with
      | none => rw [hd] at ht; cases ht
      | some u =>
        rw [hd] at ht
        exact (State.resume_of_deliver (xs ++ ys) hp hd).trans (ih ht)

theorem State.answerQueue_setAnswers (s : State) (a : Axis) (r : Option (Status × List Sample × Queue))
    (bs : List Byte) :
    (s.setAnswers bs).answerQueue a r = mapNext (·.setAnswers bs) (s.answerQueue a r) := by
  cases r with
  | none => rfl
  | some r =>
    obtain ⟨st, beats, q⟩ := r
    have hset : (s.setAnswers bs).setQueue a q = (s.setQueue a q).setAnswers bs :=
      s.mapPorts_setQueue id id (fun _ => bs) a q
    simp only [State.answerQueue, Option.elim_some, hset]
    rfl

/-- A command that does not use the bus leaves the peer's answers to it, whatever they are. -/
theorem exec_setAnswers {i : Instr} (hi : ¬ UsesBus i) (s : State) (bs : List Byte) :
    exec i (s.setAnswers bs) = mapNext (·.setAnswers bs) (exec i s) := by
  have hqueue (a : Axis) (hcommand : i = .pop a ∨ i = .size a ∨ i = .qdrain a ∨ i = .qreset a ∨ i = .front a ∨
      i = .back a ∨ ∃ v, i = .push a v) : exec i (s.setAnswers bs) = mapNext (·.setAnswers bs) (exec i s) := by
    obtain ⟨f, hf⟩ := exec_queueCommand hcommand
    rw [hf, hf, State.setAnswers_queue, State.answerQueue_setAnswers]
  have hwrite (r : CfgReg) (v : Sample) : ((s.setAnswers bs).writeCfg r v).respond .ok [] =
      ((s.writeCfg r v).respond .ok []).setAnswers bs :=
    congrArg (·.respond .ok []) (s.mapPorts_writeCfg id id (fun _ => bs) r v)
  cases i with
  | dec15 w => rfl
  | dec13 w => rfl
  | sgn15 w => rfl
  | sgn13 w => rfl
  | tag w => rfl
  | scale a neg m =>
    show execScale a neg m (s.setAnswers bs) = mapNext (·.setAnswers bs) (execScale a neg m s)
    by_cases ha : a = .t
    · subst ha; rfl
    · obtain ⟨z, hz⟩ := s.zeroOffset_of_ne_t ha
      rw [execScale_of_offset hz, execScale_of_offset ((s.setAnswers_zeroOffset bs a).trans hz),
        State.setAnswers_range]
      cases scaleSample (neg, m) s.range z <;> rfl
  | push a v => exact hqueue a (by simp)
  | pop a => exact hqueue a (by simp)
  | size a => exact hqueue a (by simp)
  | qdrain a => exact hqueue a (by simp)
  | qreset a => exact hqueue a (by simp)
  | front a => exact hqueue a (by simp)
  | back a => exact hqueue a (by simp)
  | fdrain => exact absurd (.inl rfl) hi
  | rdaxis a => exact absurd (.inr ⟨a, rfl⟩) hi
  | wrcfgZero r v =>
    simp only [exec, execWrcfgZero, hwrite]
    split <;> rfl
  | wrcfgRange v =>
    simp only [exec, execWrcfgRange, hwrite]
    split <;> rfl
  | rdcfg r => exact congrArg (fun v => Host.Outcome.next (State.respond _ .ok [v])) (s.setAnswers_readCfg bs r)

/-- No command writes the reset input: giving it the value it has changes nothing. -/
theorem exec_resetIn {i : Instr} (ht : exec i s = .next t) : t.resetIn = s.resetIn := by
  have hmap := exec_mapPorts_host i s id (fun _ => s.resetIn)
  have hself : s.mapPorts id (fun _ => s.resetIn) id = s := rfl
  rw [hself, ht] at hmap
  have hfixed : t = t.mapPorts id (fun _ => s.resetIn) id := Host.Outcome.next.inj hmap
  rw [hfixed]
  rfl

/-- Every command, continued with the answers that come later. -/
theorem exec_append {i : Instr} {xs : List Byte} (ys : List Byte) (ht : exec i (s.setAnswers xs) = .next t) :
    exec i (s.setAnswers (xs ++ ys)) = (t.setAnswers (t.answers ++ ys)).resume := by
  by_cases hi : UsesBus i
  · obtain ⟨addr, p, -, hexec⟩ := hi.exec_eq_resume
    rw [hexec] at ht ⊢
    exact State.resume_append (s := s.askReg addr p) ys ht
  · have hlocal (bs : List Byte) : exec i (s.setAnswers bs) = .next (t.setAnswers bs) := by
      have hmap := exec_setAnswers hi (s.setAnswers xs) bs
      rwa [ht] at hmap
    have hself : t = t.setAnswers xs := Host.Outcome.next.inj (ht.symm.trans (hlocal xs))
    have hanswers : t.answers = xs := congrArg State.answers hself
    obtain ⟨-, hidle, -⟩ := exec_ends hi ht
    rw [hlocal, hanswers]
    exact (State.resume_idle (t.setAnswers (xs ++ ys)) hidle).symm

end Pieces

/-- Settles O45: the step of a waiting state is its `resume`. -/
theorem answersMayComeInPieces : Obligations.AnswersMayComeInPieces := by
  intro i s t xs ys ht
  have hpieces := exec_append ys ht
  refine ⟨hpieces, fun hreset hbusy => ?_⟩
  rw [hpieces]
  exact step_of_busy ((exec_resetIn ht).trans hreset) hbusy

end Sys2Proof.Machine

/-! PROOFS. The decoder and the encoder are inverse to each other (spec/30_encoding.md R61, R62, R64, R65): what each
format accepts are the words of its operands, and every row of the table has a format. -/

namespace Sys2Proof

@[simp] theorem Axis.code_ofCode (ax : BitVec 2) : (Axis.ofCode ax).code = ax := by
  revert ax; decide

@[simp] theorem CfgReg.code_ofCode (r : BitVec 2) : (CfgReg.ofCode r).code = r := by
  revert r; decide

theorem CfgReg.ofCode_ne_range {r : BitVec 2} (hr : r ≠ 3) : CfgReg.ofCode r ≠ .range := by
  revert r; decide

/-! The fields as numbers (R61). -/

section Fields
variable (c : CmdWord)

theorem opField_toNat : (opField c).toNat = c.toNat / 2 ^ 34 := by
  have hc := c.isLt
  rw [opField, BitVec.extractLsb'_toNat, Nat.shiftRight_eq_div_pow]
  omega

theorem axField_toNat : (axField c).toNat = c.toNat / 2 ^ 32 % 4 := by
  rw [axField, BitVec.extractLsb'_toNat, Nat.shiftRight_eq_div_pow]

theorem dataField_toNat : (dataField c).toNat = c.toNat % 2 ^ 32 := by
  rw [dataField, BitVec.extractLsb'_toNat, Nat.shiftRight_zero]

/-- The "must be 0" bits of DATA are 0 exactly when DATA is a number of the bits below them (R62). -/
theorem zeroBits_iff_data_lt {k m : Nat} (hkm : k + m = 32) :
    c.extractLsb' k m = 0 ↔ c.toNat % 2 ^ 32 < 2 ^ k := by
  rw [← BitVec.toNat_inj, BitVec.extractLsb'_toNat, Nat.shiftRight_eq_div_pow, ← Nat.mod_mul_right_div_self,
    ← pow_add, hkm]
  exact Nat.div_eq_zero_iff_lt (Nat.two_pow_pos k)

/-- Then DATA is those bits, zero-extended (R62). -/
theorem dataField_eq_setWidth {k m : Nat} (hkm : k + m = 32) (hzero : c.extractLsb' k m = 0) :
    dataField c = (c.extractLsb' 0 k).setWidth 32 := by
  have hlt := (zeroBits_iff_data_lt c hkm).1 hzero
  have hdvd : 2 ^ k ∣ 2 ^ 32 := pow_dvd_pow 2 (by omega)
  apply BitVec.eq_of_toNat_eq
  rw [dataField_toNat, BitVec.toNat_setWidth, BitVec.extractLsb'_toNat, Nat.shiftRight_zero,
    ← Nat.mod_mod_of_dvd _ hdvd, Nat.mod_eq_of_lt hlt, Nat.mod_mod]

/-- The sign and the magnitude of format M are the low 12 bits of DATA (R62). -/
theorem sign_append_magnitude : BitVec.ofBool (c.getLsbD 11) ++ c.extractLsb' 0 11 = c.extractLsb' 0 12 := by
  apply BitVec.eq_of_getLsbD_eq
  intro i hi
  simp only [BitVec.getLsbD_append, BitVec.getLsbD_extractLsb']
  interval_cases i <;> simp

end Fields

/-! The word of each format's operands is accepted and gives them back (R62). -/

section Words
variable (op : BitVec 6) (ax : BitVec 2)

theorem formatW_zeros (w : RawWord) : (cmdWord op 0 (w.setWidth 32)).extractLsb' 16 16 = 0#16 := by
  have hw := w.isLt
  refine (zeroBits_iff_data_lt _ rfl).2 ?_
  rw [← dataField_toNat, dataField_cmdWord, BitVec.toNat_setWidth]
  omega

theorem formatW_operand (w : RawWord) : (cmdWord op 0 (w.setWidth 32)).extractLsb' 0 16 = w := by
  have hw := w.isLt
  have hdata := dataField_toNat (cmdWord op 0 (w.setWidth 32))
  rw [dataField_cmdWord, BitVec.toNat_setWidth] at hdata
  apply BitVec.eq_of_toNat_eq
  rw [BitVec.extractLsb'_toNat, Nat.shiftRight_zero]
  omega

theorem decodeN_word (i : Instr) : decodeN (cmdWord op 0 0) i = .ok i :=
  (decodeN_ok ..).2 ⟨axField_cmdWord .., dataField_cmdWord .., rfl⟩

theorem decodeW_word (mk : RawWord → Instr) (w : RawWord) :
    decodeW (cmdWord op 0 (w.setWidth 32)) mk = .ok (mk w) :=
  (decodeW_ok ..).2 ⟨axField_cmdWord .., formatW_zeros op w, congrArg mk (formatW_operand op w)⟩

theorem decodeQ_word (mk : BitVec 2 → Instr) : decodeQ (cmdWord op ax 0) mk = .ok (mk ax) :=
  (decodeQ_ok ..).2 ⟨dataField_cmdWord .., congrArg mk (axField_cmdWord ..)⟩

theorem decodeV_word (mk : BitVec 2 → Sample → Instr) (v : Sample) :
    decodeV (cmdWord op ax v) mk = .ok (mk ax v) := by
  rw [decodeV, axField_cmdWord, dataField_cmdWord]

/-- A format Q command whose operand is an axis. -/
theorem decodeQ_axisWord (mk : Axis → Instr) (a : Axis) :
    decodeQ (cmdWord op a.code 0) (fun ax => mk (Axis.ofCode ax)) = .ok (mk a) := by
  rw [decodeQ_word, Axis.ofCode_code]

end Words

/-- The encoder's word of every well-formed instruction decodes to it. -/
theorem decode_encode {i : Instr} (hi : i.wellFormed = true) : decode (encode i) = .ok i := by
  cases i with
  | dec15 w => exact (decode_dec15 _ (opField_cmdWord ..)).trans (decodeW_word ..)
  | dec13 w => exact (decode_dec13 _ (opField_cmdWord ..)).trans (decodeW_word ..)
  | sgn15 w => exact (decode_sgn15 _ (opField_cmdWord ..)).trans (decodeW_word ..)
  | sgn13 w => exact (decode_sgn13 _ (opField_cmdWord ..)).trans (decodeW_word ..)
  | tag w => exact (decode_tag _ (opField_cmdWord ..)).trans (decodeW_word ..)
  | scale a neg m => exact Machine.decode_scaleWord (of_decide_eq_true hi) neg m
  | push a v =>
    refine (decode_push _ (opField_cmdWord ..)).trans ((decodeV_word ..).trans ?_)
    rw [Axis.ofCode_code]
  | pop a => exact (decode_pop _ (opField_cmdWord ..)).trans (decodeQ_axisWord _ .pop a)
  | size a => exact (decode_size _ (opField_cmdWord ..)).trans (decodeQ_axisWord _ .size a)
  | qdrain a => exact (decode_qdrain _ (opField_cmdWord ..)).trans (decodeQ_axisWord _ .qdrain a)
  | qreset a => exact (decode_qreset _ (opField_cmdWord ..)).trans (decodeQ_axisWord _ .qreset a)
  | front a => exact (decode_front _ (opField_cmdWord ..)).trans (decodeQ_axisWord _ .front a)
  | back a => exact (decode_back _ (opField_cmdWord ..)).trans (decodeQ_axisWord _ .back a)
  | fdrain => exact (decode_fdrain _ (opField_cmdWord ..)).trans (decodeN_word ..)
  | rdaxis a => exact Machine.decode_rdaxisWord a
  | wrcfgZero r v => exact Machine.decode_wrcfgZeroWord (of_decide_eq_true hi) v
  | wrcfgRange v => exact Machine.decode_wrcfgRangeWord v
  | rdcfg r => exact Machine.decode_rdcfgWord r

/-- Settles O1: each row of the table by the word of its format. -/
theorem decodeEncodeRoundTrip : Obligations.DecodeEncodeRoundTrip := fun _ hi => decode_encode hi

/-- `c` is the word of the well-formed instruction `i`. -/
def IsWordOf (c : CmdWord) (i : Instr) : Prop := i.wellFormed = true ∧ encode i = c

theorem IsWordOf.of_eq {c c' : CmdWord} {i : Instr} (h : IsWordOf c i) (hc : c = c') : IsWordOf c' i := hc ▸ h

/-- The rows of the opcode table by format (R64): which operation codes have the format, which decoder reads them, and
that the encoder writes each row in the same format. -/
inductive RowOf (c : CmdWord) (op : BitVec 6) : Prop
  | formatN (i : Instr) (hop : op.toNat = 0x10) (hdec : decode c = decodeN c i) (henc : IsWordOf (cmdWord op 0 0) i)
  | formatW (mk : RawWord → Instr) (hop : 0x01 ≤ op.toNat ∧ op.toNat ≤ 0x05) (hdec : decode c = decodeW c mk)
      (henc : ∀ w, IsWordOf (cmdWord op 0 (w.setWidth 32)) (mk w))
  | formatM (hop : op = 0x06) (hdec : decode c = decodeM c .scale)
  | formatQ (mk : BitVec 2 → Instr) (hop : (0x09 ≤ op.toNat ∧ op.toNat ≤ 0x0E) ∨ op.toNat = 0x11 ∨ op.toNat = 0x19)
      (hdec : decode c = decodeQ c mk) (henc : ∀ ax, IsWordOf (cmdWord op ax 0) (mk ax))
  | formatV (mk : BitVec 2 → Sample → Instr) (hop : op.toNat = 0x08 ∨ op.toNat = 0x18) (hdec : decode c = decodeV c mk)
      (henc : ∀ ax v, IsWordOf (cmdWord op ax v) (mk ax v))
  | reserved
      (hop : op.toNat = 0x00 ∨ op.toNat = 0x07 ∨ op.toNat = 0x0F ∨ (0x12 ≤ op.toNat ∧ op.toNat ≤ 0x17) ∨
        0x1A ≤ op.toNat)
      (hdec : decode c = .error .reservedOp)

/-- WRCFG's two rows share an operation code; the register number tells them apart (R64, R137, R138). -/
theorem isWordOf_wrcfg (r : BitVec 2) (v : Sample) :
    IsWordOf (cmdWord 0x18 r v) (if r = 3 then .wrcfgRange v else .wrcfgZero (CfgReg.ofCode r) v) := by
  split
  · next hr => subst hr; exact ⟨rfl, rfl⟩
  · next hr => exact ⟨decide_eq_true (CfgReg.ofCode_ne_range hr), by rw [encode, CfgReg.code_ofCode]⟩

/-- The operation codes the table does not list, as the ranges R66 item 1 gives. -/
theorem reserved_ranges (k : BitVec 6)
    (hk : k ≠ 1 ∧ k ≠ 2 ∧ k ≠ 3 ∧ k ≠ 4 ∧ k ≠ 5 ∧ k ≠ 6 ∧ k ≠ 8 ∧ k ≠ 9 ∧ k ≠ 10 ∧ k ≠ 11 ∧ k ≠ 12 ∧ k ≠ 13 ∧ k ≠ 14 ∧
      k ≠ 16 ∧ k ≠ 17 ∧ k ≠ 24 ∧ k ≠ 25) :
    k.toNat = 0x00 ∨ k.toNat = 0x07 ∨ k.toNat = 0x0F ∨ (0x12 ≤ k.toNat ∧ k.toNat ≤ 0x17) ∨ 0x1A ≤ k.toNat := by
  revert k; decide

/-- A format Q command whose operand is an axis is written with that axis's code (R16). -/
theorem isWordOf_axisQuery {op : BitVec 6} {mk : Axis → Instr} (hwf : ∀ a, (mk a).wellFormed = true)
    (henc : ∀ a, encode (mk a) = cmdWord op a.code 0) (ax : BitVec 2) :
    IsWordOf (cmdWord op ax 0) (mk (Axis.ofCode ax)) :=
  ⟨hwf _, by rw [henc, Axis.code_ofCode]⟩

/-- Every word belongs to a row of the table or has a reserved operation code. -/
theorem rowOf (c : CmdWord) : RowOf c (opField c) := by
  generalize h : opField c = op
  rcases opcode_cases op with rfl | rfl | rfl | rfl | rfl | rfl | rfl | rfl | rfl | rfl | rfl | rfl | rfl | rfl | rfl |
    rfl | rfl | hreserved
  · exact .formatW _ (by decide) (decode_dec15 c h) fun _ => ⟨rfl, rfl⟩
  · exact .formatW _ (by decide) (decode_dec13 c h) fun _ => ⟨rfl, rfl⟩
  · exact .formatW _ (by decide) (decode_sgn15 c h) fun _ => ⟨rfl, rfl⟩
  · exact .formatW _ (by decide) (decode_sgn13 c h) fun _ => ⟨rfl, rfl⟩
  · exact .formatW _ (by decide) (decode_tag c h) fun _ => ⟨rfl, rfl⟩
  · exact .formatM rfl (decode_scale c h)
  · exact .formatV _ (by decide) (decode_push c h) fun ax v => ⟨rfl, by rw [encode, Axis.code_ofCode]⟩
  · exact .formatQ _ (by decide) (decode_pop c h) (isWordOf_axisQuery (fun _ => rfl) fun _ => rfl)
  · exact .formatQ _ (by decide) (decode_size c h) (isWordOf_axisQuery (fun _ => rfl) fun _ => rfl)
  · exact .formatQ _ (by decide) (decode_qdrain c h) (isWordOf_axisQuery (fun _ => rfl) fun _ => rfl)
  · exact .formatQ _ (by decide) (decode_qreset c h) (isWordOf_axisQuery (fun _ => rfl) fun _ => rfl)
  · exact .formatQ _ (by decide) (decode_front c h) (isWordOf_axisQuery (fun _ => rfl) fun _ => rfl)
  · exact .formatQ _ (by decide) (decode_back c h) (isWordOf_axisQuery (fun _ => rfl) fun _ => rfl)
  · exact .formatN _ (by decide) (decode_fdrain c h) ⟨rfl, rfl⟩
  · exact .formatQ _ (by decide) (decode_rdaxis c h) (isWordOf_axisQuery (fun _ => rfl) fun _ => rfl)
  · exact .formatV _ (by decide) (decode_wrcfg c h) isWordOf_wrcfg
  · exact .formatQ _ (by decide) (decode_rdcfg c h) fun r => ⟨rfl, by rw [encode, CfgReg.code_ofCode]⟩
  · exact .reserved (reserved_ranges _ hreserved) (decode_reserved c fun _ hk => hk ▸ h ▸ hreserved)

/-- A format M word is the word of the SCALE it decodes to (R62, R63). -/
theorem isWordOf_scale {c : CmdWord} (hop : opField c = 0x06) (hax : axField c ≠ 3)
    (hzero : c.extractLsb' 12 20 = 0) :
    IsWordOf c (.scale (Axis.ofCode (axField c)) (c.getLsbD 11) (c.extractLsb' 0 11)) := by
  refine ⟨decide_eq_true fun ht => hax ?_, ?_⟩
  · rw [← Axis.code_ofCode (axField c), ht]; rfl
  · rw [encode, Axis.code_ofCode, sign_append_magnitude, ← dataField_eq_setWidth c (m := 20) rfl hzero, ← hop,
      cmdWord_fields]

/-- A word that decodes is the word of what it decodes to: its three fields are those the encoder writes. -/
theorem isWordOf_of_decode {c : CmdWord} {i : Instr} (hi : decode c = .ok i) : IsWordOf c i := by
  have hfields := cmdWord_fields c
  cases rowOf c with
  | formatN j hop hdec henc =>
    obtain ⟨hax, hdata, rfl⟩ := (decodeN_ok ..).1 (hdec.symm.trans hi)
    rw [hax, hdata] at hfields
    exact henc.of_eq hfields
  | formatW mk hop hdec henc =>
    obtain ⟨hax, hzero, rfl⟩ := (decodeW_ok ..).1 (hdec.symm.trans hi)
    rw [hax, dataField_eq_setWidth c (m := 16) rfl hzero] at hfields
    exact (henc _).of_eq hfields
  | formatM hop hdec =>
    obtain ⟨hax, hzero, rfl⟩ := (decodeM_ok ..).1 (hdec.symm.trans hi)
    exact isWordOf_scale hop hax hzero
  | formatQ mk hop hdec henc =>
    obtain ⟨hdata, rfl⟩ := (decodeQ_ok ..).1 (hdec.symm.trans hi)
    rw [hdata] at hfields
    exact (henc _).of_eq hfields
  | formatV mk hop hdec henc =>
    obtain rfl := (decodeV_ok ..).1 (hdec.symm.trans hi)
    exact (henc _ _).of_eq hfields
  | reserved hop hdec => cases hdec.symm.trans hi

/-- Settles O2: the fields a format accepts are the fields it writes. -/
theorem decodedWordIsItsEncoding : Obligations.DecodedWordIsItsEncoding := fun _ _ hi => isWordOf_of_decode hi

end Sys2Proof

/-! PROOFS. The refused words (spec/30_encoding.md R66): those no format accepts, and those of FRONT and BACK. -/

namespace Sys2Proof

/-- Among the words of the other commands, those that decode are those R66 does not list. -/
theorem decodes_iff_not_refusedWord {c : CmdWord} (hfront : (opField c).toNat ≠ 0x0D)
    (hback : (opField c).toNat ≠ 0x0E) : (∃ i, decode c = .ok i) ↔ ¬ Machine.RefusedWord c := by
  have hax : axField c = 0 ↔ (axField c).toNat = 0 := BitVec.toNat_inj.symm
  have haxT : axField c = 3 ↔ (axField c).toNat = 3 := BitVec.toNat_inj.symm
  have hdata : dataField c = 0 ↔ (dataField c).toNat = 0 := BitVec.toNat_inj.symm
  have hzero {k m : Nat} (hkm : k + m = 32) : c.extractLsb' k m = 0 ↔ (dataField c).toNat < 2 ^ k := by
    rw [zeroBits_iff_data_lt c hkm, dataField_toNat]
  simp only [Machine.RefusedWord, ← opField_toNat, ← axField_toNat, ← dataField_toNat]
  cases rowOf c with
  | formatN i hop hdec henc =>
    have hok : (∃ j, decode c = .ok j) ↔ axField c = 0 ∧ dataField c = 0 := by simp [hdec, decodeN_ok]
    rw [hok, hax, hdata]
    omega
  | formatW mk hop hdec henc =>
    have hok : (∃ i, decode c = .ok i) ↔ axField c = 0 ∧ c.extractLsb' 16 16 = 0 := by simp [hdec, decodeW_ok]
    rw [hok, hax, hzero rfl]
    omega
  | formatM hop hdec =>
    have hok : (∃ i, decode c = .ok i) ↔ axField c ≠ 3 ∧ c.extractLsb' 12 20 = 0 := by simp [hdec, decodeM_ok]
    have hopNat : (opField c).toNat = 0x06 := congrArg BitVec.toNat hop
    rw [hok, Ne, haxT, hzero rfl]
    omega
  | formatQ mk hop hdec henc =>
    have hok : (∃ i, decode c = .ok i) ↔ dataField c = 0 := by simp [hdec, decodeQ_ok]
    rw [hok, hdata]
    rcases hop with hop | hop | hop <;> omega
  | formatV mk hop hdec henc =>
    have hok : ∃ i, decode c = .ok i := ⟨_, hdec⟩
    refine iff_of_true hok ?_
    omega
  | reserved hop hdec =>
    refine iff_of_false (fun ⟨i, hi⟩ => by cases hdec.symm.trans hi) (not_not_intro (.inl hop))

/-- FRONT and BACK have their operation codes to themselves (R64). -/
theorem opcode_frontBack_iff (i : Instr) :
    (opField (encode i)).toNat = 0x0D ∨ (opField (encode i)).toNat = 0x0E ↔ ∃ a, i = .front a ∨ i = .back a := by
  cases i <;> simp [encode]

end Sys2Proof

namespace Sys2Proof.Machine

/-- Item 5 of R66: every word of FRONT's and BACK's operation codes is listed. -/
theorem refusedWord_of_frontBack {c : CmdWord} (hop : (opField c).toNat = 0x0D ∨ (opField c).toNat = 0x0E) :
    RefusedWord c := by
  rw [opField_toNat] at hop
  exact .inr (.inr (.inr (.inr (.inr (.inr hop)))))

/-- A word that decodes is listed only as FRONT or BACK. -/
theorem frontBack_of_refusedWord {c : CmdWord} {i : Instr} (hi : decode c = .ok i) :
    RefusedWord c ↔ ∃ a, i = .front a ∨ i = .back a := by
  obtain ⟨-, rfl⟩ := isWordOf_of_decode hi
  rw [← opcode_frontBack_iff]
  refine ⟨fun hc => ?_, refusedWord_of_frontBack⟩
  by_contra hop
  obtain ⟨hfront, hback⟩ := not_or.1 hop
  exact (decodes_iff_not_refusedWord hfront hback).1 ⟨i, hi⟩ hc

/-- Settles O4: a word that is not listed has another operation code than FRONT and BACK, so it decodes. -/
theorem wordsNotListedDecode : Obligations.WordsNotListedDecode := by
  intro c hc
  obtain ⟨hfront, hback⟩ := not_or.1 (mt refusedWord_of_frontBack hc)
  obtain ⟨i, hi⟩ := (decodes_iff_not_refusedWord hfront hback).2 hc
  have hother := mt (frontBack_of_refusedWord hi).2 hc
  exact ⟨i, hi, fun a ha => hother ⟨a, .inl ha⟩, fun a ha => hother ⟨a, .inr ha⟩⟩

/-! The command port (R60). -/

section Port
variable {s : State} {c : CmdWord} {rest : List CmdWord}

theorem portWord_of_commands (hcommands : s.commands = c :: rest) : s.portWord = some c := by
  rw [State.portWord, hcommands]; rfl

theorem accept_of_commands (hcommands : s.commands = c :: rest) :
    s.accept = { s with commands := rest, busy := true } := by
  rw [State.accept, hcommands]; rfl

/-- A listed word only gets the response REFUSED, from the decoder or from FRONT or BACK. -/
theorem step_of_refusedWord (hreset : s.resetIn = false) (hbusy : s.busy = false) (hcommands : s.commands = c :: rest)
    (hc : RefusedWord c) : step s = .next s.accept.refuse := by
  have hport := portWord_of_commands hcommands
  cases hdec : decode c with
  | error e => exact step_of_decode_error hreset hbusy hport hdec
  | ok i =>
    obtain ⟨a, rfl | rfl⟩ := (frontBack_of_refusedWord hdec).1 hc
    · exact step_of_decode_ok hreset hbusy hport hdec
    · exact step_of_decode_ok hreset hbusy hport hdec

end Port

/-- Settles O5: taking a word changes the host's list and `BUSY` only, and the refusal gives `BUSY` back. -/
theorem refusedWordsOnlyAnswer : Obligations.RefusedWordsOnlyAnswer := by
  intro s c rest hreset hbusy hcommands hc
  refine ⟨_, step_of_refusedWord hreset hbusy hcommands hc, ⟨rfl, rfl, rfl⟩, fun a => ?_, ⟨rfl, rfl, rfl, rfl⟩,
    ⟨rfl, rfl, rfl⟩, ?_, rfl⟩
  · rw [State.refuse_queue, State.accept_queue]
  · rw [State.refuse_commands, accept_of_commands hcommands]

/-- Settles O7: the port shows `c`, and taking it leaves the later words. -/
theorem stepRunsDecodedInstruction : Obligations.StepRunsDecodedInstruction := by
  intro s c rest i hreset hbusy hcommands hdec
  rw [step_of_decode_ok hreset hbusy (portWord_of_commands hcommands) hdec, accept_of_commands hcommands]

/-- A command in progress does not write the host's words: giving them the value they have changes nothing. -/
theorem State.resume_commands {s t : State} (ht : s.resume = .next t) : t.commands = s.commands := by
  have hmap := s.resume_mapPorts_host (fun _ => s.commands) id
  have hself : s.mapPorts (fun _ => s.commands) id id = s := rfl
  rw [hself, ht] at hmap
  have hfixed : t = t.mapPorts (fun _ => s.commands) id id := Host.Outcome.next.inj hmap
  rw [hfixed]
  rfl

/-- Settles O8: the step of a busy block goes on with the command in progress. -/
theorem busyBlockTakesNoCommand : Obligations.BusyBlockTakesNoCommand := by
  intro s t hreset hbusy ht
  exact State.resume_commands ((step_of_busy hreset hbusy).symm.trans ht)

end Sys2Proof.Machine

/-! PROOFS. The codec's commands (spec/40_codec.md R81, R82, R86 to R89): sign and magnitude as numbers. -/

namespace Sys2Proof.Machine

/-! Sign and magnitude of a word (R81, NEG_ADJ = +1: log 1). -/

theorem magMask_setWidth : Config.magMask.setWidth 11 = BitVec.allOnes 11 := rfl

/-- The mask keeps the magnitude's 11 bits. -/
theorem and_magMask (w : RawWord) : (w &&& Config.magMask).setWidth 11 = w.setWidth 11 := by
  rw [BitVec.setWidth_and, magMask_setWidth, BitVec.and_allOnes]

/-- Inverting the magnitude's bits and adding 1 negates it within 11 bits. -/
theorem invert_add_one (w : RawWord) :
    (((w ^^^ Config.magMask) + negAdjWord Config.negAdj) &&& Config.magMask).setWidth 11 = -w.setWidth 11 := by
  have hadj : (negAdjWord Config.negAdj).setWidth 11 = 1#11 := rfl
  rw [and_magMask, BitVec.setWidth_add _ _ (by omega), BitVec.setWidth_xor, magMask_setWidth, hadj,
    BitVec.xor_allOnes, BitVec.neg_eq_not_add]

/-- The word's bit `sb` is the sign; a negative word's low 11 bits are negated. -/
theorem dec11_eq (w : RawWord) (sb : Nat) :
    dec11 w sb = (w.getLsbD sb, if w.getLsbD sb then -w.setWidth 11 else w.setWidth 11) := by
  rw [dec11, dec11With, invert_add_one, and_magMask]
  cases w.getLsbD sb <;> rfl

theorem dec11_sign (w : RawWord) (sb : Nat) : (dec11 w sb).1 = w.getLsbD sb := by rw [dec11_eq]

/-- The magnitude of a word as a number. -/
theorem dec11_magnitude_toNat (w : RawWord) (sb : Nat) :
    (dec11 w sb).2.toNat = if w.getLsbD sb then (2048 - w.toNat % 2048) % 2048 else w.toNat % 2048 := by
  rw [dec11_eq]
  cases w.getLsbD sb with
  | true => exact BitVec.toNat_neg _
  | false => exact BitVec.toNat_setWidth 11 w

/-- The tag lies above the sign bit of a FIFO word, so removing it changes nothing (R83, R87). -/
theorem decFifo_eq_dec11 (w : RawWord) : decFifo w = dec11 w 13 := by
  have hsign : (stripTag w).getLsbD 13 = w.getLsbD 13 := by
    have hmask : Config.fifoMask.getLsbD 13 = true := rfl
    rw [stripTag, BitVec.getLsbD_and, hmask, Bool.and_true]
  have hmagnitude : (stripTag w).setWidth 11 = w.setWidth 11 := by
    have hmask : Config.fifoMask.setWidth 11 = BitVec.allOnes 11 := rfl
    rw [stripTag, BitVec.setWidth_and, hmask, BitVec.and_allOnes]
  rw [decFifo, Config.sbitFifo, dec11_eq, dec11_eq, hsign, hmagnitude]

/-! The beats (R68). -/

/-- Bit 11 of a pair's beat is the sign, the bits below it are the magnitude. -/
theorem pairBeat_toNat (p : Bool × Magnitude) : (pairBeat p).toNat = p.1.toNat * 2048 + p.2.toNat := by
  have hm := p.2.isLt
  have hs := p.1.toNat_le
  rw [pairBeat, BitVec.toNat_setWidth, BitVec.toNat_append, BitVec.toNat_ofBool, ← Nat.shiftLeft_add_eq_or_of_lt hm,
    Nat.shiftLeft_eq]
  omega

theorem pairBeat_dec11_toNat (w : RawWord) (sb : Nat) :
    (pairBeat (dec11 w sb)).toNat =
      if w.getLsbD sb then 2048 + (2048 - w.toNat % 2048) % 2048 else w.toNat % 2048 := by
  rw [pairBeat_toNat, dec11_magnitude_toNat, dec11_sign]
  cases w.getLsbD sb <;> simp

/-- The value of a pair fits a beat. -/
theorem signedBeat_pairValue_toInt (p : Bool × Magnitude) : (signedBeat (pairValue p)).toInt = pairValue p := by
  have hm := p.2.isLt
  rw [signedBeat, wrap32, BitVec.toInt_ofInt]
  apply Int.bmod_eq_of_le
  all_goals unfold pairValue; split <;> omega

theorem pairValue_dec11 (w : RawWord) (sb : Nat) :
    pairValue (dec11 w sb) =
      if w.getLsbD sb then -(((2048 - w.toNat % 2048) % 2048 : Nat) : Int) else ((w.toNat % 2048 : Nat) : Int) := by
  rw [pairValue, dec11_magnitude_toNat, dec11_sign]
  cases w.getLsbD sb <;> rfl

/-- Settles O24: the beat is that of the pair `dec11` gives at the word's sign bit. -/
theorem signMagnitudeCommandsAnswer : Obligations.SignMagnitudeCommandsAnswer := by
  intro w s
  refine ⟨decode_encode (i := .dec15 w) rfl, decode_encode (i := .dec13 w) rfl,
    ⟨_, pairBeat (dec11 w 15), rfl, answered_respond .., unchanged_respond .., pairBeat_dec11_toNat w 15⟩,
    ⟨_, pairBeat (decFifo w), rfl, answered_respond .., unchanged_respond .., ?_⟩⟩
  rw [decFifo_eq_dec11, pairBeat_dec11_toNat]

/-- Settles O25: the beat is the value of the pair `dec11` gives at the word's sign bit. -/
theorem signedCommandsAnswer : Obligations.SignedCommandsAnswer := by
  intro w s
  refine ⟨decode_encode (i := .sgn15 w) rfl, decode_encode (i := .sgn13 w) rfl,
    ⟨_, signedBeat (pairValue (dec11 w 15)), rfl, answered_respond .., unchanged_respond .., ?_⟩,
    ⟨_, signedBeat (pairValue (decFifo w)), rfl, answered_respond .., unchanged_respond .., ?_⟩⟩
  · rw [signedBeat_pairValue_toInt, pairValue_dec11]
  · rw [signedBeat_pairValue_toInt, decFifo_eq_dec11, pairValue_dec11]

/-- Settles O6: a pair's beat is DATA of the SCALE word of its sign and magnitude. -/
theorem decodedBeatIsScaleOperand : Obligations.DecodedBeatIsScaleOperand := by
  intro w a s ha
  exact ⟨⟨_, pairBeat (dec11 w 15), rfl, answered_respond .., decode_scaleWord ha _ _⟩,
    _, pairBeat (decFifo w), rfl, answered_respond .., decode_scaleWord ha _ _⟩

/-- Settles O35: both arms refuse. -/
theorem frontAndBackAreRefused : Obligations.FrontAndBackAreRefused := by
  intro a s
  exact ⟨decode_encode (i := .front a) rfl, decode_encode (i := .back a) rfl,
    ⟨s.refuse, rfl, answered_respond .., unchanged_respond ..⟩,
    s.refuse, rfl, answered_respond .., unchanged_respond ..⟩

end Sys2Proof.Machine

/-! PROOFS. QDRAIN (spec/41_queue.md R103, R106, R107). -/

namespace Sys2Proof.Machine

theorem Queue.popFront_of_read {q : Queue} {v : Sample} (hlt : q.head < q.tail)
    (hread : q.mem.read q.head.toNat = some v) : q.popFront = some (.ok, v, { q with head := q.head + 1 }) := by
  simp [Queue.popFront, popStatus, hlt, hread]

theorem Queue.popFront_of_empty {q : Queue} (hempty : ¬ q.head < q.tail) :
    q.popFront = some (.empty, 0, { q with head := 0, tail := 0 }) := by
  simp [Queue.popFront, popStatus, hempty, Config.emptyDefault]

theorem Queue.popMany_succ {q q' : Queue} {st : Status} {v : Sample} (hpop : q.popFront = some (st, v, q')) (n : Nat) :
    q.popMany (n + 1) = (q'.popMany n).map fun (vs, q'') => (v :: vs, q'') := by
  simp only [Queue.popMany, hpop]
  cases q'.popMany n <;> rfl

/-- Every pop of an empty queue gives 0 (R103). -/
theorem Queue.popMany_of_empty {q : Queue} (hempty : ¬ q.head < q.tail) (n : Nat) :
    ∃ q', q.popMany n = some (List.replicate n 0, q') := by
  induction n generalizing q with
  | zero => exact ⟨q, rfl⟩
  | succ n ih =>
    obtain ⟨q', hrest⟩ := ih (q := { q with head := 0, tail := 0 }) (by simp)
    refine ⟨q', ?_⟩
    rw [Queue.popMany_succ (Queue.popFront_of_empty hempty), hrest]
    rfl

/-- Pops give the samples in slots HEAD to TAIL - 1 in order, then zeros (R107). -/
theorem Queue.popMany_of_samples {q : Queue} {vs : List Sample} (hlen : vs.length = q.tail.toNat - q.head.toNat)
    (hread : ∀ j, j < vs.length → q.mem.read (q.head.toNat + j) = vs[j]?) (n : Nat) :
    ∃ q', q.popMany (vs.length + n) = some (vs ++ List.replicate n 0, q') := by
  induction vs generalizing q with
  | nil =>
    have hempty : ¬ q.head < q.tail := by
      rw [BitVec.lt_def]
      simp only [List.length_nil] at hlen
      omega
    simpa using Queue.popMany_of_empty hempty n
  | cons v vs ih =>
    rw [List.length_cons] at hlen
    have hlt : q.head < q.tail := BitVec.lt_def.2 (by omega)
    have hhead := Index.succ_toNat _ _ hlt
    have hpop := Queue.popFront_of_read hlt (v := v) (by simpa using hread 0 (by simp))
    have hslot (j : Nat) : (q.head + 1).toNat + j = q.head.toNat + (j + 1) := by omega
    have hlen' : vs.length = q.tail.toNat - (q.head + 1).toNat := by omega
    obtain ⟨q', hrest⟩ := ih (q := { q with head := q.head + 1 }) hlen' fun j hj =>
      (congrArg q.mem.read (hslot j)).trans (hread (j + 1) (Nat.succ_lt_succ hj))
    refine ⟨q', ?_⟩
    rw [List.length_cons, Nat.add_right_comm, Queue.popMany_succ hpop, hrest]
    rfl

/-- The answer that leaves queue `a` reset (R106): both indices 0, every slot the fill value, all else as it was. -/
theorem setQueue_clear_respond (s : State) (a : Axis) (st : Status) (beats : List Sample) :
    ∃ t, t = (s.setQueue a Queue.clear).respond st beats ∧ Answered st beats s t ∧ SameQueuesBut a s t ∧
      SameConfig s t ∧ SameBus s t ∧ SameHost s t ∧ (t.queue a).head = 0 ∧ (t.queue a).tail = 0 ∧
      ∀ i, i < 512 → (t.queue a).mem.read i = some (BitVec.ofInt 32 (-999999)) := by
  obtain ⟨hqueues, hconfig, hbus⟩ := setQueue_respond_frame s a Queue.clear st beats
  have hqueue : ((s.setQueue a Queue.clear).respond st beats).queue a = Queue.clear := by simp
  refine ⟨_, rfl, ⟨by simp, rfl, rfl⟩, hqueues, hconfig, hbus, by simp [SameHost], ?_⟩
  rw [hqueue]
  exact ⟨rfl, rfl, fun i hi => (Queue.clear_read i).trans (if_pos hi)⟩

/-- Settles O34: TAIL pops, of which the first read the samples and the others find the queue empty. -/
theorem qdrainAnswersTheQueue : Obligations.QdrainAnswersTheQueue := by
  intro a s vs
  refine ⟨decode_encode (i := .qdrain a) rfl, fun hlen hread => ?_⟩
  obtain ⟨q, hpops⟩ := Queue.popMany_of_samples hlen hread ((s.queue a).tail.toNat - vs.length)
  rw [Nat.add_sub_cancel' (hlen ▸ Nat.sub_le ..)] at hpops
  obtain ⟨t, ht, hanswer⟩ := setQueue_clear_respond s a .ok
    (vs ++ List.replicate ((s.queue a).tail.toNat - vs.length) 0)
  refine ⟨t, ?_, hanswer⟩
  simp only [exec, execQdrain, hpops, ht]

end Sys2Proof.Machine

/-! PROOFS. Which command gives which status (spec/60_exceptions.md R160 to R162, R166). -/

namespace Sys2Proof.Machine

/-- From `s` to `t` every new response has the status OK. -/
def NewResponsesOk (s t : State) : Prop :=
  ∃ rs, t.responses = rs ++ s.responses ∧ ∀ r ∈ rs, r.status = .ok

section NewResponsesOk
variable {s t u : State}

theorem NewResponsesOk.of_eq (h : t.responses = s.responses) : NewResponsesOk s t := ⟨[], h, by simp⟩

theorem NewResponsesOk.trans (hst : NewResponsesOk s t) (htu : NewResponsesOk t u) : NewResponsesOk s u := by
  obtain ⟨rs, hrs, hok⟩ := hst
  obtain ⟨rs', hrs', hok'⟩ := htu
  refine ⟨rs' ++ rs, by rw [hrs', hrs, List.append_assoc], fun r hr => ?_⟩
  exact (List.mem_append.1 hr).elim (hok' r) (hok r)

theorem newResponsesOk_respond (h : t.responses = s.responses) (beats : List Sample) :
    NewResponsesOk s (t.respond .ok beats) :=
  ⟨[⟨.ok, beats⟩], congrArg _ h, by simp⟩

/-- The one new response, then, has the status OK. -/
theorem NewResponsesOk.status (h : NewResponsesOk s t) {r : Response} (hr : t.responses = r :: s.responses) :
    r.status = .ok := by
  obtain ⟨rs, hrs, hok⟩ := h
  have hone : rs = [r] := List.append_cancel_right (hrs.symm.trans hr)
  exact hok r (by simp [hone])

/-- Whatever byte comes, in whatever phase. -/
theorem State.deliver_newResponsesOk {b : Byte} (ht : s.deliver b = some t) : NewResponsesOk s t := by
  cases hp : s.phase with
  | idle => cases (s.deliver_idle b hp).symm.trans ht; exact .of_eq rfl
  | countHi => cases (s.deliver_countHi b hp).symm.trans ht; exact .of_eq rfl
  | countLo hi =>
    cases (s.deliver_countLo b hi hp).symm.trans ht
    rcases lt_or_ge 0 (sval (registerWord hi b) 15) with hpos | hneg
    · rw [State.gotCount_burst _ _ hpos]; exact .of_eq rfl
    · rw [State.gotCount_done _ _ hneg]; exact newResponsesOk_respond rfl _
  | burstCmd left => cases (s.deliver_burstCmd b left hp).symm.trans ht; exact .of_eq rfl
  | burstLsb left words => cases (s.deliver_burstLsb b left words hp).symm.trans ht; exact .of_eq rfl
  | burstMsb left words lsb =>
    rw [s.deliver_burstMsb b left words lsb hp] at ht
    rcases lt_or_ge 1 left with hmore | hlast
    · cases (s.gotWord_more _ _ hmore).symm.trans ht; exact .of_eq rfl
    · rw [s.gotWord_last _ _ hlast] at ht
      obtain ⟨u, hu, rfl⟩ := Option.map_eq_some_iff.1 ht
      exact newResponsesOk_respond (State.routeAll_responses hu) _
  | axisHi a => cases (s.deliver_axisHi b a hp).symm.trans ht; exact .of_eq rfl
  | axisLo a hi =>
    rw [s.deliver_axisLo b a hi hp] at ht
    by_cases ha : a = .t
    · subst ha; cases ht; exact newResponsesOk_respond rfl _
    · obtain ⟨z, hz⟩ := s.zeroOffset_of_ne_t ha
      rw [State.gotAxisWord_of_offset hz] at ht
      obtain ⟨v, -, rfl⟩ := Option.map_eq_some_iff.1 ht
      exact newResponsesOk_respond rfl _

theorem State.resume_newResponsesOk {bs : List Byte} (ht : (s.setAnswers bs).resume = .next t) :
    NewResponsesOk s t := by
  induction bs generalizing s with
  | nil => cases ht; exact .of_eq rfl
  | cons b bs ih =>
    by_cases hp : s.phase = .idle
    · cases ((s.setAnswers (b :: bs)).resume_idle hp).symm.trans ht; exact .of_eq rfl
    · rw [State.resume_setAnswers_cons s b bs hp] at ht
      cases hd : s.deliver b with
      | none => rw [hd] at ht; cases ht
      | some u => rw [hd] at ht; exact (State.deliver_newResponsesOk hd).trans (ih ht)

/-- The two commands on the bus never answer anything but OK (R124, R136). -/
theorem UsesBus.newResponsesOk {i : Instr} (hi : UsesBus i) (ht : exec i s = .next t) : NewResponsesOk s t := by
  obtain ⟨addr, p, -, hexec⟩ := hi.exec_eq_resume
  exact State.resume_newResponsesOk (s := s.askReg addr p) ((hexec s).symm.trans ht)

end NewResponsesOk

theorem pushStatus_ok_or_sat (tail : Index) : pushStatus tail = .ok ∨ pushStatus tail = .sat := by
  unfold pushStatus
  split
  · exact .inl rfl
  · exact .inr rfl

/-- What a command can answer: OK; REFUSED with nothing changed; from PUSH also SAT, and from POP also EMPTY. -/
inductive AnswerOf (i : Instr) (s t : State) : Prop
  | ok (h : NewResponsesOk s t)
  | refused (h : t = s.refuse)
  | push (a : Axis) (v : Sample) (hi : i = .push a v) (st : Status) (hst : st = .ok ∨ st = .sat)
      (h : t.responses = ⟨st, []⟩ :: s.responses)
  | pop (a : Axis) (hi : i = .pop a) (st : Status) (v : Sample) (hst : st = .ok ∨ st = .empty)
      (h : t.responses = ⟨st, [v]⟩ :: s.responses)

section AnswerOf
variable {s t : State}

theorem answerOf_scale {a : Axis} {neg : Bool} {m : Magnitude} (ht : exec (.scale a neg m) s = .next t) :
    AnswerOf (.scale a neg m) s t := by
  change execScale a neg m s = .next t at ht
  by_cases ha : a = .t
  · subst ha; cases ht; exact .refused rfl
  · obtain ⟨z, hz⟩ := s.zeroOffset_of_ne_t ha
    rw [execScale_of_offset hz] at ht
    cases hv : scaleSample (neg, m) s.range z with
    | none => rw [hv] at ht; cases ht
    | some v => rw [hv] at ht; cases ht; exact .ok (newResponsesOk_respond rfl _)

theorem answerOf_pop {a : Axis} (ht : exec (.pop a) s = .next t) : AnswerOf (.pop a) s t := by
  change execPop a s = .next t at ht
  unfold execPop at ht
  rcases (s.queue a).popFront_cases with ⟨-, -, hpop⟩ | ⟨v, -, -, hpop⟩ | ⟨-, hpop⟩
  · rw [hpop] at ht; cases ht
  · rw [hpop] at ht; cases ht; exact .pop a rfl _ v (.inl rfl) (by simp)
  · rw [hpop] at ht; cases ht; exact .pop a rfl _ 0 (.inr rfl) (by simp)

theorem answerOf_qdrain {a : Axis} (ht : exec (.qdrain a) s = .next t) : AnswerOf (.qdrain a) s t := by
  change execQdrain a s = .next t at ht
  unfold execQdrain at ht
  cases hpops : (s.queue a).popMany (s.queue a).tail.toNat with
  | none => rw [hpops] at ht; cases ht
  | some r => rw [hpops] at ht; cases ht; exact .ok (newResponsesOk_respond (by simp) _)

/-- Every command's answer. -/
theorem exec_answerOf {i : Instr} (ht : exec i s = .next t) : AnswerOf i s t := by
  cases i with
  | dec15 w => cases ht; exact .ok (newResponsesOk_respond rfl _)
  | dec13 w => cases ht; exact .ok (newResponsesOk_respond rfl _)
  | sgn15 w => cases ht; exact .ok (newResponsesOk_respond rfl _)
  | sgn13 w => cases ht; exact .ok (newResponsesOk_respond rfl _)
  | tag w => cases ht; exact .ok (newResponsesOk_respond rfl _)
  | scale a neg m => exact answerOf_scale ht
  | push a v => cases ht; exact .push a v rfl (pushStatus (s.queue a).tail) (pushStatus_ok_or_sat _) (by simp)
  | pop a => exact answerOf_pop ht
  | size a => cases ht; exact .ok (newResponsesOk_respond rfl _)
  | qdrain a => exact answerOf_qdrain ht
  | qreset a => cases ht; exact .ok (newResponsesOk_respond (by simp) _)
  | front a => cases ht; exact .refused rfl
  | back a => cases ht; exact .refused rfl
  | fdrain => exact .ok (UsesBus.newResponsesOk (.inl rfl) ht)
  | rdaxis a => exact .ok (UsesBus.newResponsesOk (.inr ⟨a, rfl⟩) ht)
  | wrcfgZero r v =>
    by_cases hr : r = .range
    · subst hr; cases ht; exact .refused rfl
    · obtain ⟨hexec, -⟩ := exec_wrcfgZero_answers hr v s
      cases hexec.symm.trans ht
      exact .ok (newResponsesOk_respond (by simp) _)
  | wrcfgRange v =>
    change execWrcfgRange v s = .next t at ht
    unfold execWrcfgRange at ht
    split at ht
    · cases ht; exact .ok (newResponsesOk_respond (by simp) _)
    · cases ht; exact .refused rfl
  | rdcfg r => cases ht; exact .ok (newResponsesOk_respond rfl _)

end AnswerOf

/-- Settles O17: by what the command can answer. -/
theorem statusBelongsToItsCommand : Obligations.StatusBelongsToItsCommand := by
  intro i s t st bs ht hresp
  cases exec_answerOf ht with
  | ok h =>
    obtain rfl : st = .ok := h.status hresp
    exact ⟨Status.noConfusion, Status.noConfusion, Status.noConfusion⟩
  | refused h =>
    subst h
    cases hresp
    exact ⟨Status.noConfusion, Status.noConfusion, fun _ => ⟨rfl, unchanged_respond ..⟩⟩
  | push a v hi st' hst h =>
    cases h.symm.trans hresp
    refine ⟨fun _ => ⟨a, v, hi⟩, ?_⟩
    rcases hst with rfl | rfl <;> exact ⟨Status.noConfusion, Status.noConfusion⟩
  | pop a hi st' v hst h =>
    cases h.symm.trans hresp
    refine ⟨?_, fun _ => ⟨a, hi⟩, ?_⟩
    all_goals rcases hst with rfl | rfl <;> exact Status.noConfusion

end Sys2Proof.Machine

/-! PROOFS. WireCodec as arithmetic (spec/40_codec.md R80 to R85, R90): the tag as a number, the decode of a
two's-complement wire form, the scaling factors, and the host's calibration (spec/44_host_procedures.md R146). -/

namespace Sys2Proof.Machine

/-! The tag (R83). -/

theorem axisTag_code_toNat (w : RawWord) : (axisTag w).code.toNat = w.toNat / 2 ^ 14 := by
  have hw := w.isLt
  rw [axisTag, Axis.code_ofCode, BitVec.extractLsb'_toNat, Nat.shiftRight_eq_div_pow]
  omega

theorem axisTag_eq_iff (w : RawWord) (a : Axis) : axisTag w = a ↔ w.toNat / 2 ^ 14 = a.code.toNat := by
  have hcode : Function.Injective Axis.code := Function.LeftInverse.injective Axis.ofCode_code
  rw [← axisTag_code_toNat, BitVec.toNat_inj, hcode.eq_iff]

theorem axisBeat_toNat (a : Axis) : (axisBeat a).toNat = a.code.toNat :=
  BitVec.toNat_setWidth_of_le (by omega)

theorem stripTag_toNat (w : RawWord) : (stripTag w).toNat = w.toNat % 2 ^ 14 := by
  have hmask : Config.fifoMask.toNat = 2 ^ 14 - 1 := rfl
  rw [stripTag, BitVec.toNat_and, hmask, Nat.and_two_pow_sub_one_eq_mod]

/-- Settles O22: an axis is its code, and the tag-stripping mask is the low 14 bits. -/
theorem tagBitsNameTheAxis : Obligations.TagBitsNameTheAxis := fun w =>
  ⟨axisTag_eq_iff w .x, axisTag_eq_iff w .y, axisTag_eq_iff w .z, axisTag_eq_iff w .t, stripTag_toNat w⟩

/-- Settles O26: the beat is the code of the word's tag. -/
theorem tagCommandAnswers : Obligations.TagCommandAnswers := fun w _ =>
  ⟨decode_encode (i := .tag w) rfl, _, axisBeat (axisTag w), rfl, answered_respond .., unchanged_respond ..,
    (axisBeat_toNat _).trans (axisTag_code_toNat w)⟩

/-! The decode of a word (R80 to R82, R85). -/

/-- Settles O19: the sign and the magnitude as numbers, at any sign position. -/
theorem dec11NegatesWithinElevenBits : Obligations.Dec11NegatesWithinElevenBits := fun w sb _ =>
  ⟨dec11_sign w sb, dec11_magnitude_toNat w sb⟩

/-- The sign bit and the low 11 bits are all that the decode reads (R80). -/
theorem dec11_congr {w w' : RawWord} {sb : Nat} (hlow : w.setWidth 11 = w'.setWidth 11)
    (hsign : w.getLsbD sb = w'.getLsbD sb) : dec11 w sb = dec11 w' sb := by
  rw [dec11_eq, dec11_eq, hlow, hsign]

/-- Settles O21: both decodes are `dec11` at their sign positions. -/
theorem ignoredBitsDoNotMatter : Obligations.IgnoredBitsDoNotMatter := by
  intro w w' hlow
  refine ⟨dec11_congr hlow, fun hsign => ?_⟩
  rw [decFifo_eq_dec11, decFifo_eq_dec11, dec11_congr hlow hsign]

section WireForm
variable {w : RawWord} {v : Int} {n : Nat}

/-- The top bit of a two's-complement form is the sign. -/
theorem getLsbD_sign_of_ofInt (hn : 0 < n) (hw : w.setWidth n = BitVec.ofInt n v) (hlo : -2 ^ (n - 1) ≤ v)
    (hhi : v < 2 ^ (n - 1)) : w.getLsbD (n - 1) = decide (v < 0) := by
  have hmsb := BitVec.msb_eq_toInt (x := w.setWidth n)
  rw [BitVec.msb_eq_getLsbD_last, BitVec.getLsbD_setWidth, decide_eq_true (show n - 1 < n by omega), Bool.true_and,
    hw, BitVec.toInt_ofInt_eq_self hn hlo hhi] at hmsb
  exact hmsb

/-- The low 11 bits of a two's-complement form are the value modulo 2^11. -/
theorem toNat_mod_of_ofInt (hn : 11 ≤ n) (hw : w.setWidth n = BitVec.ofInt n v) :
    ((w.toNat % 2048 : Nat) : Int) = v % 2048 := by
  have hdvd : 2 ^ 11 ∣ 2 ^ n := pow_dvd_pow 2 hn
  have hlow : w.toNat % 2 ^ n = (v % (2 ^ n : Nat)).toNat := by
    rw [← BitVec.toNat_setWidth, hw, BitVec.toNat_ofInt]
  have hpos : ((2 ^ n : Nat) : Int) ≠ 0 := by positivity
  calc ((w.toNat % 2048 : Nat) : Int)
      = ((w.toNat % 2 ^ n : Nat) : Int) % 2048 := congrArg Nat.cast (Nat.mod_mod_of_dvd w.toNat hdvd).symm
    _ = v % (2 ^ n : Nat) % 2048 := by rw [hlow, Int.toNat_of_nonneg (Int.emod_nonneg _ hpos)]
    _ = v % 2048 := Int.emod_emod_of_dvd _ (Int.natCast_dvd_natCast.2 hdvd)

/-- A word that carries `v` in its low `n` bits decodes to `v`, with the sign at the top of these bits. -/
theorem pairValue_dec11_of_ofInt (hn : 12 ≤ n) (hw : w.setWidth n = BitVec.ofInt n v) (hlo : -2047 ≤ v)
    (hhi : v ≤ 2047) : pairValue (dec11 w (n - 1)) = v := by
  have hpow : (2 : Int) ^ 11 ≤ 2 ^ (n - 1) := pow_le_pow_right₀ (by decide) (by omega)
  have hsign := getLsbD_sign_of_ofInt (by omega) hw (by omega) (by omega)
  have hmagnitude := toNat_mod_of_ofInt (by omega) hw
  rw [pairValue_dec11, hsign]
  by_cases hneg : v < 0
  · rw [if_pos (decide_eq_true hneg)]; omega
  · rw [if_neg (by simpa using hneg)]; omega

end WireForm

/-- Settles O20: the register word carries the value in 16 bits, the FIFO word in the 14 bits below its tag. -/
theorem signedDecodeRoundTrip : Obligations.SignedDecodeRoundTrip := by
  refine ⟨fun v hlo hhi => ⟨?_, fun tag => ?_⟩, by decide⟩
  · exact pairValue_dec11_of_ofInt (n := 16) (by omega) (BitVec.setWidth_eq _) hlo hhi
  · have hlow : (tag ++ BitVec.ofInt 14 v).setWidth 14 = BitVec.ofInt 14 v := by
      rw [BitVec.setWidth_append, dif_pos le_rfl, BitVec.setWidth_eq]
    rw [decFifo_eq_dec11]
    exact pairValue_dec11_of_ofInt (n := 14) (by omega) hlow hlo hhi

/-! Scaling and calibration (R84, R146; log 12, log 19). -/

/-- Where the range's divisor divides 1000, scaling multiplies by the quotient. -/
theorem scaleSample_of_factor {range : Byte} {k : Int} (hk : k * Int.tdiv 2000 range.toNat = 1000)
    (p : Bool × Magnitude) (zero : Sample) :
    scaleSample p range zero = some (wrap32 (k * pairValue p + zero.toInt)) := by
  have hdivisor : Int.tdiv 2000 range.toNat ≠ 0 := fun hzero => by simp [hzero] at hk
  have hrange : range ≠ 0 := by rintro rfl; exact hdivisor rfl
  rw [scaleSample_of_range_ne hrange, ← hk, ← mul_assoc, Int.mul_tdiv_cancel _ hdivisor, mul_comm k]

/-- Settles O23: the divisors of 2, 4 and 8 are 1000, 500 and 250. -/
theorem scaleFactorsOfLegalRanges : Obligations.ScaleFactorsOfLegalRanges := by
  intro p zero
  refine ⟨?_, scaleSample_of_factor (by decide) p zero, scaleSample_of_factor (by decide) p zero⟩
  rw [scaleSample_of_factor (k := 1) (by decide), one_mul]

/-- The average of equal readings is the reading. -/
theorem calibratedZero_replicate (target : Int) (zeroOld reading : Sample) :
    calibratedZero target zeroOld (List.replicate calReads reading) =
      wrap32 (target - (reading.toInt - zeroOld.toInt)) := by
  have hcount : (calReads : Int) ≠ 0 := by decide
  rw [calibratedZero, List.map_replicate, List.sum_replicate, nsmul_eq_mul, Int.mul_tdiv_cancel_left _ hcount]

/-- The wraps of the old reading and of the new offset cancel modulo 2^32, and with them the scaled value `q`. -/
theorem wrap32_recalibrated (q target : Int) (zero : Sample) :
    wrap32 (q + (wrap32 (target - ((wrap32 (q + zero.toInt)).toInt - zero.toInt))).toInt) = wrap32 target := by
  simp only [wrap32, sub_eq_add_neg, BitVec.ofInt_add, BitVec.ofInt_neg, BitVec.ofInt_toInt]
  ring

/-- Settles O54: the new offset differs from the old one by target minus reading, and so does the new reading. -/
theorem calibrationMovesReadingToTarget : Obligations.CalibrationMovesReadingToTarget := by
  refine ⟨rfl, rfl, rfl, rfl, fun _ target p range zeroOld reading _ hreading => ?_⟩
  have hzero : calibratedZero target zeroOld (List.replicate 100 reading) =
      wrap32 (target - (reading.toInt - zeroOld.toInt)) := calibratedZero_replicate ..
  refine ⟨hzero, ?_⟩
  rcases scaleSample_cases p range zeroOld with ⟨-, hnone⟩ | ⟨hrange, hscaled⟩
  · cases hnone.symm.trans hreading
  · obtain rfl := Option.some.inj (hscaled.symm.trans hreading)
    rw [hzero, scaleSample_of_range_ne hrange, wrap32_recalibrated]

end Sys2Proof.Machine

/-! PROOFS. The queue commands PUSH, POP, SIZE and QRESET (spec/41_queue.md R101 to R106), each as the answer its
queue's operation gives. -/

namespace Sys2Proof.Machine

section QueueAnswers
variable (s : State) (a : Axis) (q : Queue) (st : Status) (beats : List Sample)

theorem answered_setQueue_respond : Answered st beats s ((s.setQueue a q).respond st beats) :=
  ⟨by simp, rfl, rfl⟩

theorem sameHost_setQueue_respond : SameHost s ((s.setQueue a q).respond st beats) := by
  simp [SameHost]

theorem setQueue_respond_queue_same : ((s.setQueue a q).respond st beats).queue a = q := by
  simp

end QueueAnswers

theorem exec_push (a : Axis) (v : Sample) (s : State) :
    exec (.push a v) s =
      .next ((s.setQueue a ((s.queue a).pushBack v)).respond (pushStatus (s.queue a).tail) []) := rfl

/-- POP answers what `popFront` gives. -/
theorem exec_pop_of_popFront {a : Axis} {s : State} {st : Status} {v : Sample} {q : Queue}
    (hpop : (s.queue a).popFront = some (st, v, q)) :
    exec (.pop a) s = .next ((s.setQueue a q).respond st [v]) := by
  simp only [exec, execPop, hpop]

theorem pushStatus_of_lt {tail : Index} (hlt : tail.toNat < 511) : pushStatus tail = .ok :=
  if_pos (BitVec.lt_def.2 hlt)

theorem pushStatus_of_full {tail : Index} (hfull : tail.toNat = 511) : pushStatus tail = .sat :=
  if_neg fun hlt => (BitVec.lt_def.1 hlt).ne hfull

theorem indexBeat_toNat (i : Index) : (indexBeat i).toNat = i.toNat :=
  BitVec.toNat_setWidth_of_le (by decide)

/-- Settles O29: the queue after is `pushBack`'s, and the status depends on TAIL before the store. -/
theorem pushStoresAtTail : Obligations.PushStoresAtTail := by
  intro a v s
  obtain ⟨hqueues, hconfig, hbus⟩ :=
    setQueue_respond_frame s a ((s.queue a).pushBack v) (pushStatus (s.queue a).tail) []
  have hanswer := answered_setQueue_respond s a ((s.queue a).pushBack v) (pushStatus (s.queue a).tail) []
  have htail := (s.queue a).pushBack_tail_toNat v
  refine ⟨decode_encode (i := .push a v) rfl, _, exec_push a v s, hqueues, hconfig, hbus,
    sameHost_setQueue_respond .., ?_⟩
  rw [setQueue_respond_queue_same]
  refine ⟨(s.queue a).pushBack_head v, (s.queue a).pushBack_read v, fun hlt => ⟨?_, ?_⟩, fun hfull => ⟨?_, ?_⟩⟩
  · rwa [pushStatus_of_lt hlt] at hanswer ⊢
  · rw [htail, if_pos hlt]
  · rwa [pushStatus_of_full hfull] at hanswer ⊢
  · exact BitVec.eq_of_toNat_eq (htail.trans (if_neg hfull.not_lt))

/-- Settles O30: the two ways `popFront` answers. -/
theorem popReadsAtHead : Obligations.PopReadsAtHead := by
  intro a s
  refine ⟨decode_encode (i := .pop a) rfl, fun v hlt hread => ?_, fun hempty => ?_⟩
  · obtain ⟨hqueues, hconfig, hbus⟩ :=
      setQueue_respond_frame s a { s.queue a with head := (s.queue a).head + 1 } .ok [v]
    refine ⟨_, exec_pop_of_popFront (Queue.popFront_of_read (BitVec.lt_def.2 hlt) hread),
      answered_setQueue_respond .., hqueues, hconfig, hbus, sameHost_setQueue_respond .., ?_⟩
    rw [setQueue_respond_queue_same]
    exact ⟨Index.succ_toNat _ _ (BitVec.lt_def.2 hlt), rfl, fun _ => rfl⟩
  · have hnot : ¬ (s.queue a).head < (s.queue a).tail := fun hlt => hempty.not_gt (BitVec.lt_def.1 hlt)
    obtain ⟨hqueues, hconfig, hbus⟩ := setQueue_respond_frame s a { s.queue a with head := 0, tail := 0 } .empty [0]
    refine ⟨_, exec_pop_of_popFront (Queue.popFront_of_empty hnot), answered_setQueue_respond .., hqueues, hconfig,
      hbus, sameHost_setQueue_respond .., ?_⟩
    rw [setQueue_respond_queue_same]
    exact ⟨rfl, rfl, fun _ => rfl⟩

/-- Settles O32: SIZE is a response alone, and its beat is TAIL, zero-extended. -/
theorem sizeAnswersTail : Obligations.SizeAnswersTail := fun a _ =>
  ⟨decode_encode (i := .size a) rfl, _, _, rfl, answered_respond .., unchanged_respond .., indexBeat_toNat _⟩

/-- Settles O33: QRESET answers with the cleared queue. -/
theorem qresetFillsTheQueue : Obligations.QresetFillsTheQueue := by
  intro a s
  obtain ⟨t, rfl, hanswer⟩ := setQueue_clear_respond s a .ok []
  exact ⟨decode_encode (i := .qreset a) rfl, _, rfl, hanswer⟩

end Sys2Proof.Machine

/-! PROOFS. Any number of pushes (spec/41_queue.md R101, R109), and QDRAIN after them (R107). -/

namespace Sys2Proof.Machine

/-! The queue after any pushes. -/

section PushAll
variable (q : Queue) (vs : List Sample)

theorem Queue.pushAll_cons (v : Sample) : q.pushAll (v :: vs) = (q.pushBack v).pushAll vs := rfl

theorem Queue.pushAll_append (ws : List Sample) : q.pushAll (vs ++ ws) = (q.pushAll vs).pushAll ws :=
  List.foldl_append

@[simp] theorem Queue.pushAll_head : (q.pushAll vs).head = q.head := by
  induction vs generalizing q with
  | nil => rfl
  | cons v vs ih => rw [Queue.pushAll_cons, ih, Queue.pushBack_head]

/-- TAIL counts the pushes and stays at the saturation bound (R101). -/
theorem Queue.pushAll_tail_toNat : (q.pushAll vs).tail.toNat = min (q.tail.toNat + vs.length) 511 := by
  have hbound := q.tail.isLt
  induction vs generalizing q with
  | nil => exact (Nat.min_eq_left (Nat.le_of_lt_succ hbound)).symm
  | cons v vs ih =>
    rw [Queue.pushAll_cons, ih _ (q.pushBack v).tail.isLt, Queue.pushBack_tail_toNat, List.length_cons]
    split <;> omega

/-- Pushes write no slot below TAIL. -/
theorem Queue.pushAll_read_below {i : Nat} (hi : i < q.tail.toNat) : (q.pushAll vs).mem.read i = q.mem.read i := by
  induction vs generalizing q with
  | nil => rfl
  | cons v vs ih =>
    have hnext : i < (q.pushBack v).tail.toNat := by
      rw [Queue.pushBack_tail_toNat]
      split <;> omega
    rw [Queue.pushAll_cons, ih _ hnext, Queue.pushBack_read, if_neg hi.ne]

/-- Below the saturation bound the samples stand in push order, from TAIL on. -/
theorem Queue.pushAll_read_pushed {j : Nat} (hj : j < vs.length) (hbound : q.tail.toNat + j < 511) :
    (q.pushAll vs).mem.read (q.tail.toNat + j) = vs[j]? := by
  induction vs generalizing q j with
  | nil => cases hj
  | cons v vs ih =>
    have htail : (q.pushBack v).tail.toNat = q.tail.toNat + 1 := by
      rw [Queue.pushBack_tail_toNat, if_pos (by omega)]
    rw [Queue.pushAll_cons]
    cases j with
    | zero =>
      rw [Queue.pushAll_read_below _ _ (by omega), Queue.pushBack_read]
      exact if_pos rfl
    | succ j =>
      have hrest := ih (q.pushBack v) (Nat.lt_of_succ_lt_succ hj) (by omega)
      rwa [htail, Nat.add_assoc, Nat.add_comm 1 j] at hrest

/-- Once the pushes have passed the saturation bound, slot 511 holds the most recent one. -/
theorem Queue.pushAll_read_last (hfull : 512 ≤ q.tail.toNat + vs.length) :
    (q.pushAll vs).mem.read 511 = vs.getLast? := by
  have hbound := q.tail.isLt
  rcases vs.eq_nil_or_concat' with rfl | ⟨us, v, rfl⟩
  · simp only [List.length_nil] at hfull
    omega
  · have htail : (q.pushAll us).tail.toNat = 511 := by
      rw [List.length_append, List.length_singleton] at hfull
      rw [Queue.pushAll_tail_toNat]
      omega
    rw [Queue.pushAll_append, List.getLast?_concat]
    exact ((q.pushAll us).pushBack_read v 511).trans (if_pos htail.symm)

end PushAll

/-! Commands one after the other. -/

theorem execAll_cons {i : Instr} {s t : State} (ht : exec i s = .next t) (is : List Instr) :
    execAll (i :: is) s = execAll is t := by
  rw [execAll, ht]

theorem execAll_append {is : List Instr} {s t : State} (ht : execAll is s = .next t) (js : List Instr) :
    execAll (is ++ js) s = execAll js t := by
  induction is generalizing s with
  | nil => cases ht; rfl
  | cons i is ih =>
    cases hi : exec i s with
    | next u =>
      rw [execAll_cons hi] at ht
      rw [List.cons_append, execAll_cons hi, ih ht]
    | fault f => rw [execAll, hi] at ht; cases ht
    | refused f => rw [execAll, hi] at ht; cases ht

/-- Only queue `a` has changed: the other queues, the configuration and the bus are as they were (R22). -/
def OnlyQueue (a : Axis) (s t : State) : Prop := SameQueuesBut a s t ∧ SameConfig s t ∧ SameBus s t

theorem OnlyQueue.refl (a : Axis) (s : State) : OnlyQueue a s s :=
  ⟨fun _ _ => rfl, ⟨rfl, rfl, rfl, rfl⟩, rfl, rfl, rfl⟩

theorem OnlyQueue.trans {a : Axis} {s t u : State} (hst : OnlyQueue a s t) (htu : OnlyQueue a t u) :
    OnlyQueue a s u := by
  obtain ⟨hqueues, ⟨hx, hy, hz, hr⟩, hcs, htrace, hanswers⟩ := hst
  obtain ⟨hqueues', ⟨hx', hy', hz', hr'⟩, hcs', htrace', hanswers'⟩ := htu
  exact ⟨fun b hb => (hqueues' b hb).trans (hqueues b hb),
    ⟨hx'.trans hx, hy'.trans hy, hz'.trans hz, hr'.trans hr⟩,
    hcs'.trans hcs, htrace'.trans htrace, hanswers'.trans hanswers⟩

/-- PUSHes in a row run to the queue that the pushes in a row give. -/
theorem execAll_pushes (a : Axis) (vs : List Sample) (s : State) :
    ∃ t, execAll (vs.map (Instr.push a)) s = .next t ∧ t.queue a = (s.queue a).pushAll vs ∧ OnlyQueue a s t := by
  induction vs generalizing s with
  | nil => exact ⟨s, rfl, rfl, .refl a s⟩
  | cons v vs ih =>
    obtain ⟨t, hrun, hqueue, hframe⟩ := ih _
    rw [setQueue_respond_queue_same] at hqueue
    refine ⟨t, ?_, hqueue, .trans (setQueue_respond_frame ..) hframe⟩
    rw [List.map_cons, execAll_cons (exec_push a v s), hrun]

/-- Settles O36: the queue after the pushes, from TAIL 0. -/
theorem pushesSaturateInOrder : Obligations.PushesSaturateInOrder := by
  intro a vs s hhead htail
  obtain ⟨t, hrun, hqueue, hframe⟩ := execAll_pushes a vs s
  have hzero : (s.queue a).tail.toNat = 0 := by rw [htail]; rfl
  refine ⟨t, hrun, ?_⟩
  rw [hqueue, Queue.pushAll_head, Queue.pushAll_tail_toNat, hzero, Nat.zero_add]
  refine ⟨hhead, rfl, fun i hi hbound => ?_, fun hfull => ?_, hframe⟩
  · have hread := (s.queue a).pushAll_read_pushed vs hi (by omega)
    rwa [hzero, Nat.zero_add] at hread
  · exact (s.queue a).pushAll_read_last vs (by omega)

/-- Settles O37: slots 0 to TAIL - 1 hold the first 511 samples, so QDRAIN (R107) answers them and no zeros. -/
theorem qdrainAfterPushesIsFifo : Obligations.QdrainAfterPushesIsFifo := by
  intro a vs s hhead htail
  obtain ⟨t, hrun, hthead, httail, hread, -⟩ := pushesSaturateInOrder a vs s hhead htail
  have hlen : (vs.take 511).length = (t.queue a).tail.toNat := by
    rw [httail, List.length_take, Nat.min_comm]
  have hheadNat : (t.queue a).head.toNat = 0 := by rw [hthead]; rfl
  have hslots (j : Nat) (hj : j < (vs.take 511).length) :
      (t.queue a).mem.read ((t.queue a).head.toNat + j) = (vs.take 511)[j]? := by
    rw [List.length_take, Nat.lt_min] at hj
    obtain ⟨hbound, hj⟩ := hj
    rw [hheadNat, Nat.zero_add, hread j hj hbound, List.getElem?_take_of_lt hbound]
  obtain ⟨-, hdrain⟩ := qdrainAnswersTheQueue a t (vs.take 511)
  obtain ⟨u, hu, ⟨hresp, -, -⟩, -, -, -, -, huhead, hutail, -⟩ := hdrain (by rw [hlen, hheadNat, Nat.sub_zero]) hslots
  refine ⟨u, ?_, ?_, huhead, hutail⟩
  · rw [execAll_append hrun, execAll_cons hu]
    rfl
  · rw [hresp, hlen, Nat.sub_self, List.replicate_zero, List.append_nil]
    rfl

end Sys2Proof.Machine

/-! PROOFS. SIZE falls only by emptying (spec/41_queue.md R110): what a command on the bus does to the queues is to
push, and every other command replaces at most its own queue. -/

namespace Sys2Proof.Machine

/-- Every queue has had samples pushed, perhaps none. -/
def PushFrame (s t : State) : Prop := ∀ a, ∃ vs, t.queue a = (s.queue a).pushAll vs

section PushFrame
variable {s t u : State}

theorem PushFrame.of_same (h : SameQueues s t) : PushFrame s t := fun a => ⟨[], h a⟩

theorem PushFrame.trans (hst : PushFrame s t) (htu : PushFrame t u) : PushFrame s u := by
  intro a
  obtain ⟨vs, ht⟩ := hst a
  obtain ⟨ws, hu⟩ := htu a
  exact ⟨vs ++ ws, by rw [hu, ht, Queue.pushAll_append]⟩

theorem PushFrame.tail_le (h : PushFrame s t) (a : Axis) : (s.queue a).tail.toNat ≤ (t.queue a).tail.toNat := by
  obtain ⟨vs, ht⟩ := h a
  have hbound := (s.queue a).tail.isLt
  rw [ht, Queue.pushAll_tail_toNat]
  omega

theorem pushFrame_respond (st : Status) (beats : List Sample) : PushFrame s (s.respond st beats) :=
  .of_same fun _ => State.respond_queue ..
theorem pushFrame_askReg (addr : Byte) (p : Phase) : PushFrame s (s.askReg addr p) :=
  .of_same fun _ => State.askReg_queue ..
theorem pushFrame_askExchange (tx : Byte) (p : Phase) : PushFrame s (s.askExchange tx p) :=
  .of_same fun _ => State.askExchange_queue ..
theorem pushFrame_assertCs : PushFrame s s.assertCs := .of_same fun _ => State.assertCs_queue ..
theorem pushFrame_releaseCs : PushFrame s s.releaseCs := .of_same fun _ => State.releaseCs_queue ..

theorem pushFrame_pushBack (a : Axis) (v : Sample) : PushFrame s (s.setQueue a ((s.queue a).pushBack v)) := by
  intro b
  by_cases hb : b = a
  · subst hb
    exact ⟨[v], State.setQueue_queue_same ..⟩
  · exact ⟨[], State.setQueue_queue_other _ _ _ _ hb⟩

theorem State.routeWord_pushFrame {w : RawWord} (ht : s.routeWord w = some t) : PushFrame s t := by
  rcases s.routeWord_cases w with ⟨-, hr⟩ | ⟨z, -, -, hr⟩ | ⟨z, v, -, -, hr⟩
  · cases hr.symm.trans ht
    exact .of_same fun _ => rfl
  · cases hr.symm.trans ht
  · cases hr.symm.trans ht
    exact pushFrame_pushBack _ v

theorem State.routeAll_pushFrame {ws : List RawWord} (ht : s.routeAll ws = some t) : PushFrame s t := by
  induction ws generalizing s with
  | nil => cases ht; exact .of_same fun _ => rfl
  | cons w ws ih =>
    rw [State.routeAll_cons] at ht
    obtain ⟨u, hu, ht⟩ := Option.bind_eq_some_iff.1 ht
    exact (State.routeWord_pushFrame hu).trans (ih ht)

theorem State.gotCount_pushFrame (s : State) (n : Int) : PushFrame s (s.gotCount n) := by
  rcases lt_or_ge 0 n with hpos | hneg
  · rw [State.gotCount_burst _ _ hpos]
    exact pushFrame_assertCs.trans (pushFrame_askExchange _ _)
  · rw [State.gotCount_done _ _ hneg]
    exact pushFrame_respond _ _

/-- Only the last word of a burst pushes, when the words are routed (log 5). -/
theorem State.gotWord_pushFrame {left : Nat} {words : List RawWord} (ht : s.gotWord left words = some t) :
    PushFrame s t := by
  rcases lt_or_ge 1 left with hmore | hlast
  · cases (s.gotWord_more _ _ hmore).symm.trans ht
    exact pushFrame_askExchange _ _
  · rw [State.gotWord_last _ _ _ hlast] at ht
    obtain ⟨u, hu, rfl⟩ := Option.map_eq_some_iff.1 ht
    exact (pushFrame_releaseCs.trans (State.routeAll_pushFrame hu)).trans (pushFrame_respond _ _)

theorem State.gotAxisWord_pushFrame {a : Axis} {raw : RawWord} (ht : s.gotAxisWord a raw = some t) :
    PushFrame s t := by
  by_cases ha : a = .t
  · subst ha
    cases ht
    exact pushFrame_respond _ _
  · obtain ⟨z, hz⟩ := s.zeroOffset_of_ne_t ha
    rw [State.gotAxisWord_of_offset hz] at ht
    obtain ⟨v, -, rfl⟩ := Option.map_eq_some_iff.1 ht
    exact pushFrame_respond _ _

/-- Whatever byte comes, in whatever phase. -/
theorem State.deliver_pushFrame {b : Byte} (ht : s.deliver b = some t) : PushFrame s t := by
  cases hp : s.phase with
  | idle => cases (s.deliver_idle b hp).symm.trans ht; exact .of_same fun _ => rfl
  | countHi => cases (s.deliver_countHi b hp).symm.trans ht; exact pushFrame_askReg _ _
  | countLo hi => cases (s.deliver_countLo b hi hp).symm.trans ht; exact s.gotCount_pushFrame _
  | burstCmd left => cases (s.deliver_burstCmd b left hp).symm.trans ht; exact pushFrame_askExchange _ _
  | burstLsb left words => cases (s.deliver_burstLsb b left words hp).symm.trans ht; exact pushFrame_askExchange _ _
  | burstMsb left words lsb =>
    exact State.gotWord_pushFrame ((s.deliver_burstMsb b left words lsb hp).symm.trans ht)
  | axisHi a => cases (s.deliver_axisHi b a hp).symm.trans ht; exact pushFrame_askReg _ _
  | axisLo a hi => exact State.gotAxisWord_pushFrame ((s.deliver_axisLo b a hi hp).symm.trans ht)

theorem State.resume_pushFrame {bs : List Byte} (ht : (s.setAnswers bs).resume = .next t) : PushFrame s t := by
  induction bs generalizing s with
  | nil => cases ht; exact .of_same fun _ => State.setAnswers_queue ..
  | cons b bs ih =>
    by_cases hp : s.phase = .idle
    · cases ((s.setAnswers (b :: bs)).resume_idle hp).symm.trans ht
      exact .of_same fun _ => State.setAnswers_queue ..
    · rw [State.resume_setAnswers_cons s b bs hp] at ht
      cases hd : s.deliver b with
      | none => rw [hd] at ht; cases ht
      | some u => rw [hd] at ht; exact (State.deliver_pushFrame hd).trans (ih ht)

theorem UsesBus.pushFrame {i : Instr} (hi : UsesBus i) (ht : exec i s = .next t) : PushFrame s t := by
  obtain ⟨addr, p, -, hexec⟩ := hi.exec_eq_resume
  exact (pushFrame_askReg addr p).trans (State.resume_pushFrame ((hexec s).symm.trans ht))

end PushFrame

/-! What each command does to the queues. -/

section Commands
variable {s t : State}

theorem exec_scale_sameQueues {a : Axis} {neg : Bool} {m : Magnitude} (ht : exec (.scale a neg m) s = .next t) :
    SameQueues s t := by
  change execScale a neg m s = .next t at ht
  by_cases ha : a = .t
  · subst ha; cases ht; exact fun _ => State.refuse_queue ..
  · obtain ⟨z, hz⟩ := s.zeroOffset_of_ne_t ha
    rw [execScale_of_offset hz] at ht
    cases hv : scaleSample (neg, m) s.range z with
    | none => rw [hv] at ht; cases ht
    | some v => rw [hv] at ht; cases ht; exact fun _ => State.respond_queue ..

theorem exec_wrcfgZero_sameQueues {r : CfgReg} {v : Sample} (ht : exec (.wrcfgZero r v) s = .next t) :
    SameQueues s t := by
  by_cases hr : r = .range
  · subst hr; cases ht; exact fun _ => State.refuse_queue ..
  · obtain ⟨hexec, -, hqueues, -⟩ := exec_wrcfgZero_answers hr v s
    cases hexec.symm.trans ht
    exact hqueues

theorem exec_wrcfgRange_sameQueues {v : Sample} (ht : exec (.wrcfgRange v) s = .next t) : SameQueues s t := by
  obtain ⟨-, hlegal, hillegal⟩ := wrcfgWritesOnlyLegalRanges v s
  by_cases hv : v.toNat = 2 ∨ v.toNat = 4 ∨ v.toNat = 8
  · obtain ⟨u, hu, -, hqueues, -⟩ := hlegal hv
    cases hu.symm.trans ht
    exact hqueues
  · obtain ⟨u, hu, -, hqueues, -⟩ := hillegal hv
    cases hu.symm.trans ht
    exact hqueues

/-- Every command but POP, QDRAIN and QRESET does nothing to the queues but push. -/
theorem exec_pushFrame {i : Instr} (hpop : ∀ a, i ≠ .pop a) (hqdrain : ∀ a, i ≠ .qdrain a)
    (hqreset : ∀ a, i ≠ .qreset a) (ht : exec i s = .next t) : PushFrame s t := by
  cases i with
  | dec15 w => cases ht; exact pushFrame_respond _ _
  | dec13 w => cases ht; exact pushFrame_respond _ _
  | sgn15 w => cases ht; exact pushFrame_respond _ _
  | sgn13 w => cases ht; exact pushFrame_respond _ _
  | tag w => cases ht; exact pushFrame_respond _ _
  | scale a neg m => exact .of_same (exec_scale_sameQueues ht)
  | push a v => cases ht; exact (pushFrame_pushBack a v).trans (pushFrame_respond _ _)
  | pop a => exact absurd rfl (hpop a)
  | size a => cases ht; exact pushFrame_respond _ _
  | qdrain a => exact absurd rfl (hqdrain a)
  | qreset a => exact absurd rfl (hqreset a)
  | front a => cases ht; exact pushFrame_respond _ _
  | back a => cases ht; exact pushFrame_respond _ _
  | fdrain => exact UsesBus.pushFrame (.inl rfl) ht
  | rdaxis a => exact UsesBus.pushFrame (.inr ⟨a, rfl⟩) ht
  | wrcfgZero r v => exact .of_same (exec_wrcfgZero_sameQueues ht)
  | wrcfgRange v => exact .of_same (exec_wrcfgRange_sameQueues ht)
  | rdcfg r => cases ht; exact pushFrame_respond _ _

/-- A pop of a queue that is not empty leaves TAIL (R103). -/
theorem exec_pop_tail {a : Axis} (hlt : (s.queue a).head < (s.queue a).tail) (ht : exec (.pop a) s = .next t) :
    (t.queue a).tail = (s.queue a).tail := by
  rcases (s.queue a).popFront_cases with ⟨-, hread, -⟩ | ⟨v, -, -, hpop⟩ | ⟨hempty, -⟩
  · obtain ⟨hfault, -⟩ := popOfUnwrittenSlotFaults a s (BitVec.lt_def.1 hlt) hread
    cases hfault.symm.trans ht
  · cases (exec_pop_of_popFront hpop).symm.trans ht
    rw [setQueue_respond_queue_same]
  · exact absurd hlt hempty

/-- Where one queue at most has changed, a TAIL that falls is that queue's. -/
theorem eq_of_tail_falls {a b : Axis} (hother : SameQueuesBut b s t)
    (hfall : (t.queue a).tail.toNat < (s.queue a).tail.toNat) : b = a := by
  by_contra hne
  rw [hother a (Ne.symm hne)] at hfall
  exact lt_irrefl _ hfall

end Commands

/-- Settles O39: pushes do not lower TAIL, and of the three other commands POP does only on an empty queue. -/
theorem sizeFallsOnlyByEmptying : Obligations.SizeFallsOnlyByEmptying := by
  intro i a s t ht hfall
  have hown (b : Axis) (hi : i = .pop b ∨ i = .qdrain b ∨ i = .qreset b) : b = a := by
    obtain ⟨hframe, -⟩ := queuesAreIndependent i b s (by tauto)
    obtain ⟨hother, -⟩ := hframe t ht
    exact eq_of_tail_falls hother hfall
  cases i with
  | pop b =>
    obtain rfl := hown b (.inl rfl)
    refine .inr (.inr ⟨rfl, not_lt.1 fun hlt => ?_⟩)
    rw [exec_pop_tail (BitVec.lt_def.2 hlt) ht] at hfall
    exact lt_irrefl _ hfall
  | qdrain b => exact .inr (.inl (congrArg Instr.qdrain (hown b (.inr (.inl rfl)))))
  | qreset b => exact .inl (congrArg Instr.qreset (hown b (.inr (.inr rfl))))
  | _ =>
    have hframe : PushFrame s t :=
      exec_pushFrame (fun _ => Instr.noConfusion) (fun _ => Instr.noConfusion) (fun _ => Instr.noConfusion) ht
    exact absurd hfall (hframe.tail_le a).not_gt

end Sys2Proof.Machine

/-! PROOFS. FDRAIN without a burst (spec/42_drainer.md R120, R121), and chip-select, which is FDRAIN's alone (R125). -/

namespace Sys2Proof.Machine

/-- FDRAIN with a count that is not positive: `t` is the state in which it has read both registers, and it responds
there (R121). -/
theorem exec_fdrain_done {s : State} {hi lo : Byte} {rest : List Byte} (hbs : s.answers = hi :: lo :: rest)
    (hcount : sval (hi ++ lo : BitVec 16) 15 ≤ 0) :
    ∃ t, exec .fdrain s = .next ((t.respond .ok []).setAnswers rest) ∧ WaitFrame s t ∧
      t.csAsserted = s.csAsserted ∧
      t.trace = .regRead Config.addrFifoEntriesL :: .regRead Config.addrFifoEntriesH :: s.trace := by
  refine ⟨(s.askReg Config.addrFifoEntriesH .countHi).askReg Config.addrFifoEntriesL (.countLo hi), ?_,
    (waitFrame_askReg ..).trans (waitFrame_askReg ..), rfl, rfl⟩
  rw [exec_fdrain_eq hbs, State.resume_of_deliver _ Phase.noConfusion (State.deliver_countHi _ _ rfl),
    State.resume_of_deliver _ Phase.noConfusion (State.deliver_countLo _ _ _ rfl), registerWord_eq_append,
    State.gotCount_done _ _ hcount, State.resume_idle _ rfl]

/-- Settles O41: the two register reads are framed, and the response follows them at once. -/
theorem fdrainWithoutBurst : Obligations.FdrainWithoutBurst := by
  intro s hi lo rest hbs hcount
  obtain ⟨t, ht, hwait, hcs, htrace⟩ := exec_fdrain_done hbs hcount
  obtain ⟨-, hqueues, hconfig, hhost⟩ := id hwait
  exact ⟨_, ht, hwait.answered .., hqueues, hconfig, hhost, hcs, rfl, htrace⟩

/-- From `s` to `t` chip-select is as it was and the peer has seen register reads at most (R125). -/
def RegReadsOnly (s t : State) : Prop :=
  t.csAsserted = s.csAsserted ∧ ∃ es, t.trace = es ++ s.trace ∧ ∀ e ∈ es, ∃ addr, e = .regRead addr

section RegReadsOnly
variable {s t : State}

theorem SameBus.regReadsOnly (h : SameBus s t) : RegReadsOnly s t := by
  obtain ⟨hcs, htrace, -⟩ := h
  exact ⟨hcs, [], htrace, by simp⟩

theorem State.gotAxisWord_sameBus {a : Axis} {raw : RawWord} (ht : s.gotAxisWord a raw = some t) : SameBus s t := by
  by_cases ha : a = .t
  · subst ha; cases ht; exact ⟨rfl, rfl, rfl⟩
  · obtain ⟨z, hz⟩ := s.zeroOffset_of_ne_t ha
    rw [State.gotAxisWord_of_offset hz] at ht
    obtain ⟨v, -, rfl⟩ := Option.map_eq_some_iff.1 ht
    exact ⟨rfl, rfl, rfl⟩

/-- RDAXIS reads one register, or two once the first answer has come (spec/43_session.md R136). -/
theorem exec_rdaxis_regReadsOnly {a : Axis} (ht : exec (.rdaxis a) s = .next t) : RegReadsOnly s t := by
  match hbs : s.answers with
  | [] =>
    rw [exec_rdaxis_eq a hbs] at ht
    cases ht
    exact ⟨rfl, [.regRead (Config.addrDataH a)], rfl, by simp⟩
  | [hi] =>
    rw [exec_rdaxis_eq a hbs, State.resume_of_deliver _ Phase.noConfusion (State.deliver_axisHi _ _ _ rfl)] at ht
    cases ht
    exact ⟨rfl, [.regRead (Config.addrDataL a), .regRead (Config.addrDataH a)], rfl, by simp⟩
  | hi :: lo :: rest =>
    obtain ⟨u, hexec, -, hcs, htrace⟩ := exec_rdaxis_complete a hbs
    rw [hexec] at ht
    cases hword : u.gotAxisWord a (hi ++ lo) with
    | none => rw [hword] at ht; cases ht
    | some v =>
      obtain ⟨-, hidle, -⟩ := State.gotAxisWord_ends hword
      obtain ⟨hvcs, hvtrace, -⟩ := State.gotAxisWord_sameBus hword
      rw [hword, Option.elim_some, State.resume_idle (v.setAnswers rest) hidle] at ht
      cases ht
      exact ⟨hvcs.trans hcs, [.regRead (Config.addrDataL a), .regRead (Config.addrDataH a)], hvtrace.trans htrace,
        by simp⟩

theorem exec_wrcfgZero_sameBus {r : CfgReg} {v : Sample} (ht : exec (.wrcfgZero r v) s = .next t) : SameBus s t := by
  by_cases hr : r = .range
  · subst hr; cases ht; exact ⟨rfl, rfl, rfl⟩
  · obtain ⟨hexec, -, -, hbus, -⟩ := exec_wrcfgZero_answers hr v s
    cases hexec.symm.trans ht
    exact hbus

theorem exec_wrcfgRange_sameBus {v : Sample} (ht : exec (.wrcfgRange v) s = .next t) : SameBus s t := by
  change execWrcfgRange v s = .next t at ht
  unfold execWrcfgRange at ht
  obtain ⟨-, hbus, -⟩ := writeCfg_respond_frame s .range v .ok []
  split at ht
  · cases ht; exact hbus
  · cases ht; exact ⟨rfl, rfl, rfl⟩

/-- A command that is none of the two on the bus leaves the bus as it was. -/
theorem exec_sameBus {i : Instr} (hi : ¬ UsesBus i) (ht : exec i s = .next t) : SameBus s t := by
  by_cases hzero : ∃ r v, i = .wrcfgZero r v
  · obtain ⟨r, v, rfl⟩ := hzero
    exact exec_wrcfgZero_sameBus ht
  by_cases hrange : ∃ v, i = .wrcfgRange v
  · obtain ⟨v, rfl⟩ := hrange
    exact exec_wrcfgRange_sameBus ht
  obtain ⟨a, q, st, beats, rfl⟩ := exec_local_cases (fun r v h => hzero ⟨r, v, h⟩) (fun v h => hrange ⟨v, h⟩)
    (fun h => hi (.inl h)) (fun a h => hi (.inr ⟨a, h⟩)) ht
  obtain ⟨-, -, hbus⟩ := setQueue_respond_frame s a q st beats
  exact hbus

end RegReadsOnly

/-- Settles O46: RDAXIS is the only other command on the bus. -/
theorem onlyFdrainDrivesChipSelect : Obligations.OnlyFdrainDrivesChipSelect := by
  intro i s t hfdrain ht
  by_cases hrdaxis : ∃ a, i = .rdaxis a
  · obtain ⟨a, rfl⟩ := hrdaxis
    exact exec_rdaxis_regReadsOnly ht
  · exact (exec_sameBus (fun hi => hi.elim hfdrain hrdaxis) ht).regReadsOnly

end Sys2Proof.Machine

/-! PROOFS. The host's `setRange` (spec/44_host_procedures.md R147): the filter-control byte as its two range bits above
six bits that no range touches. -/

namespace Sys2Proof.Machine

theorem filterByte_eq_append (f : Byte) : f.extractLsb' 6 2 ++ f.extractLsb' 0 6 = f :=
  (BitVec.extractLsb'_append_extractLsb'_eq_extractLsb' rfl).trans BitVec.extractLsb'_eq_self

section FilterByte
variable (top : BitVec 2) (low : BitVec 6)

/-- The mask 0x80 is 2 above 0: bit 7 is set, bit 6 stays. -/
theorem filterByteFor_eight : filterByteFor 8 (top ++ low) = some ((top ||| 2#2) ++ low) :=
  calc filterByteFor 8 (top ++ low)
    _ = some ((top ++ low) ||| (2#2 ++ 0#6)) := rfl
    _ = some ((top ||| 2#2) ++ low) := by rw [BitVec.or_append, BitVec.or_zero]

/-- The mask 0x3F is 0 above six ones: both range bits are cleared. -/
theorem filterByteFor_two : filterByteFor 2 (top ++ low) = some (0#2 ++ low) :=
  calc filterByteFor 2 (top ++ low)
    _ = some ((top ++ low) &&& (0#2 ++ BitVec.allOnes 6)) := rfl
    _ = some (0#2 ++ low) := by rw [BitVec.and_append, BitVec.and_zero, BitVec.and_allOnes]

/-- The masks 0x40 and 0x7F set bit 6 and clear bit 7, whatever the range bits were. -/
theorem filterByteFor_four : filterByteFor 4 (top ++ low) = some (1#2 ++ low) := by
  have htop : (top ||| 1#2) &&& 1#2 = 1#2 := by revert top; decide
  calc filterByteFor 4 (top ++ low)
    _ = some (((top ++ low) ||| (1#2 ++ 0#6)) &&& (1#2 ++ BitVec.allOnes 6)) := rfl
    _ = some (1#2 ++ low) := by
      rw [BitVec.or_append, BitVec.and_append, BitVec.or_zero, BitVec.and_allOnes, htop]

/-- The range is read off the two range bits alone. -/
theorem rangeOfFilterByte_append :
    rangeOfFilterByte (top ++ low) = if top = 0 then 2 else if top = 1 then 4 else 8 := by
  rw [rangeOfFilterByte, BitVec.extractLsb'_append_eq_left]

theorem filterByte_toNat : (top ++ low).toNat = 64 * top.toNat + low.toNat := by
  rw [BitVec.toNat_append, ← Nat.shiftLeft_add_eq_or_of_lt low.isLt, Nat.shiftLeft_eq, Nat.mul_comm]

end FilterByte

/-- Settles O53: no write touches the low six bits, and the last one fixes both range bits. -/
theorem setRangeSequenceSelectsFour : Obligations.SetRangeSequenceSelectsFour := by
  intro f
  have hset := filterByteFor_eight (f.extractLsb' 6 2) (f.extractLsb' 0 6)
  rw [filterByte_eq_append] at hset
  refine ⟨_, _, _, hset, filterByteFor_two .., filterByteFor_four .., ?_, rangeOfFilterByte_append ..⟩
  rw [filterByte_toNat, BitVec.extractLsb'_toNat, Nat.shiftRight_zero]
  rfl

end Sys2Proof.Machine
